-- ==== Sys2Proof/Word.lean ====
section
/-! DEFINITION. The words of the OC-12: bytes, channel numbers, channel sets, counts kept modulo a power of two, and the
tables that hold one thing for each of the twelve channels or for each of the five fault kinds. -/

namespace Sys2Proof

/-- A byte of a host link frame (R158). -/
abbrev Byte := BitVec 8

/-- A 16-bit field of a host link frame; also the CRC of R158, sequence numbers (R134) and snapshot numbers (R151). -/
abbrev Half := BitVec 16

/-- Part time: a 32-bit count of barrier cycles that wraps (00_scope.md, Section 1.5.3; R62). -/
abbrev PartTime := BitVec 32

/-- A channel number, 0 to 11 (00_scope.md, Section 1.5.4). -/
abbrev Chan := Fin 12

/-- A channel set, carried as a 12-bit mask with bit n standing for channel n (00_scope.md, Section 1.5.4). -/
abbrev ChanSet := BitVec 12

/-- A configuration generation, 0 to 7, advanced modulo 8 (R29, R31). -/
abbrev Gen := BitVec 3

/-- A subset of the generations 0 to 7: the doubt set of R29. Bit g stands for generation g. -/
abbrev GenSet := BitVec 8

/-- A release token, 0 to 3, advanced modulo 4 (R82, R115). -/
abbrev Token := BitVec 2

/-- An occurrence counter, kept modulo 16 (R16). -/
abbrev Occurrences := BitVec 4

/-- A table of `n` items, indexed from 0. -/
structure Table (n : Nat) (α : Type) where
  toList : List α
  size_eq : toList.length = n
  deriving DecidableEq, Repr

/-- Item `i`. -/
def Table.get {n : Nat} {α : Type} (p : Table n α) (i : Fin n) : α :=
  p.toList[i.val]'(by rw [p.size_eq]; exact i.isLt)

/-- The table whose item `i` is `f i`. -/
def Table.ofFn {n : Nat} {α : Type} (f : Fin n → α) : Table n α :=
  ⟨List.ofFn f, by simp⟩

/-- The table with item `i` replaced. -/
def Table.set {n : Nat} {α : Type} (p : Table n α) (i : Fin n) (a : α) : Table n α :=
  ⟨p.toList.set i.val a, by simp [p.size_eq]⟩

/-- The table with item `i` changed by `f`. -/
def Table.update {n : Nat} {α : Type} (p : Table n α) (i : Fin n) (f : α → α) : Table n α :=
  p.set i (f (p.get i))

/-- Every item changed by `f`, which also sees the index. -/
def Table.mapIdx {n : Nat} {α β : Type} (p : Table n α) (f : Fin n → α → β) : Table n β :=
  Table.ofFn fun i => f i (p.get i)

/-- Every item changed by `f`. -/
def Table.map {n : Nat} {α β : Type} (p : Table n α) (f : α → β) : Table n β :=
  Table.ofFn fun i => f (p.get i)

/-- The same item everywhere. -/
def Table.all {n : Nat} {α : Type} (a : α) : Table n α :=
  Table.ofFn fun _ => a

/-- A table with one item for each of the twelve channels, in channel order. -/
abbrev PerChan (α : Type) := Table 12 α

/-- The channels in ascending order. -/
def allChans : List Chan := [0, 1, 2, 3, 4, 5, 6, 7, 8, 9, 10, 11]

/-- The set of the channels whose item passes `f`. -/
def Table.members {α : Type} (p : PerChan α) (f : α → Bool) : ChanSet :=
  allChans.foldr (fun c acc => (if f (p.get c) then BitVec.twoPow 12 c.val else 0) ||| acc) 0

/-- Channel `c` is a member of the set. -/
def ChanSet.has (m : ChanSet) (c : Chan) : Bool := m.getLsbD c.val

/-- The five fault kinds, in fault-kind order (Chapter 6, Section 6.1). -/
inductive FaultKind where
  | overcurrent | overtemp | openOn | openOff | shortSupply
  deriving DecidableEq, Repr

/-- The fault kinds in fault-kind order (Chapter 6, Section 6.1). -/
def allKinds : List FaultKind := [.overcurrent, .overtemp, .openOn, .openOff, .shortSupply]

/-- A table with one item for each fault kind. `PerKind Bool` is a subset of the five kinds. -/
structure PerKind (α : Type) where
  overcurrent : α
  overtemp : α
  openOn : α
  openOff : α
  shortSupply : α
  deriving DecidableEq, Repr

/-- The item of kind `k`. -/
def PerKind.get {α : Type} (p : PerKind α) : FaultKind → α
  | .overcurrent => p.overcurrent
  | .overtemp => p.overtemp
  | .openOn => p.openOn
  | .openOff => p.openOff
  | .shortSupply => p.shortSupply

/-- The table whose item for kind `k` is `f k`. -/
def PerKind.ofFn {α : Type} (f : FaultKind → α) : PerKind α :=
  ⟨f .overcurrent, f .overtemp, f .openOn, f .openOff, f .shortSupply⟩

/-- The same item for every kind. -/
def PerKind.all {α : Type} (a : α) : PerKind α := PerKind.ofFn fun _ => a

/-- Some kind is a member of the set. -/
def PerKind.any (p : PerKind Bool) : Bool :=
  p.overcurrent || p.overtemp || p.openOn || p.openOff || p.shortSupply

end Sys2Proof
end

