-- ==== Sys2Proof/Syntax.lean ====
section
/-! DEFINITION. The commands of the OC-12: one constructor for each row of spec/opcode_table.json, in the table's order, and
the operands they carry. A command is a step of the part, whole and indivisible (95_what_each_step_holds.md): a happening at a
pin, a sensor, a timer, the barrier or the serial link, or the taking of one host command.

Operands. The table gives its rows no fields. An operand here is what the happening brings from outside the part and the rules
read: the channel whose supervisor it reaches, the sensed current or voltage, the levels of a character on RXD, the level on a pin, the
fields of the host frame that is taken (TABLE 69). Where a happening needs nothing from outside, it has no operand. The straps and
what the sensors read are operands of the commands that read them (DESIGN CHOICE, safe; log entries 16 and 18). -/

namespace Sys2Proof

/-- The level of an input pin. -/
inductive Level where
  | low | high
  deriving DecidableEq, Repr

/-- A character that the receiver takes (R157): its eight data bits, and whether its stop bit was sampled low. -/
structure RxChar where
  byte : Byte
  stopError : Bool
  deriving DecidableEq, Repr

/-- What RXD does for one character (R157): whether it has been high at any moment since the stop bit of the character before was
sampled, and its level in each of the ten bit times of the character, in the order of time: bit i of `levels` is set if RXD is
high in bit time i. -/
structure RxLine where
  wasHigh : Bool
  levels : BitVec 10
  deriving DecidableEq, Repr

/-- What the sensors of one channel see at a happening: the load current through the switch in microamperes, the voltage at
the output pin in millivolts, and the junction temperature in thousandths of a degree Celsius (Chapter 1). The units are the
model's (DESIGN CHOICE, safe; log entry 3). -/
structure LoadSense where
  current : Nat
  voltage : Int
  junction : Int
  deriving DecidableEq, Repr

/-- What the temperature sensor at the switch of one channel reads (R3): the junction temperature in thousandths of a degree Celsius. -/
structure JunctionReading where
  chan : Chan
  junction : Int
  deriving DecidableEq, Repr

/-- What the field side senses at a happening that forms its state anew: VF in millivolts, and every channel. -/
structure FieldSense where
  vf : Nat
  loads : PerChan LoadSense
  deriving DecidableEq, Repr

/-- The causes that begin a control reset from outside (R172): VL out of its range, or NRST low for 10 µs. -/
inductive ResetPin where
  | power | pin
  deriving DecidableEq, Repr

/-- The happenings that fall together with an advance of part time and that may be taken before the drive frame of the new
cycle is built (R62, R89, R97): those of the counts of part time. -/
inductive AdvanceHappening where
  | atTimeEntriesDue
  | holdCountdownExpiry (c : Chan)
  | silenceTimeout
  | retransmissionTimerExpiry
  | waitTimerExpiry
  deriving DecidableEq, Repr

/-- The eight bytes of a configuration record as the host sends it (TABLE 70). -/
structure RecordBytes where
  limitClass : Byte
  inrush : Byte
  retryDelay : Byte
  retryBudget : Byte
  openThreshold : Byte
  openQualification : Byte
  enables : Byte
  holdTime : Byte
  deriving DecidableEq, Repr

/-- The commands of the OC-12, one constructor for each row of spec/opcode_table.json. -/
inductive Instr where
  /-- BARRIER_CYCLE_START (R62); `first` are the happenings of this advance that are taken before the frame is built. -/
  | barrierCycleStart (first : List AdvanceHappening)
  /-- GOOD_STATUS_FRAME_TAKEN (R72); `k` is the place, among the status frames under way, of the one that is taken. -/
  | goodStatusFrameTaken (k : Nat)
  /-- DRIVE_FRAME_TAKEN (R67): the drive frame under way arrives with a correct check. -/
  | driveFrameTaken (sense : FieldSense)
  /-- WATCH_TIMER_EXPIRY (R66). -/
  | watchTimerExpiry
  /-- HOLD_TIMER_EXPIRY (R51). -/
  | holdTimerExpiry (c : Chan)
  /-- SUPPLY_RESET_SILENCE_EXPIRY (R69). -/
  | supplyResetSilenceExpiry
  /-- REGULATION_BEGINS (R2): the load current has risen to `current`. -/
  | regulationBegins (c : Chan) (current : Nat)
  /-- REGULATION_ENDS (R2): the load current has fallen to `current`. -/
  | regulationEnds (c : Chan) (current : Nat)
  /-- INRUSH_TIMER_EXPIRY (R5), with the load current at that moment. -/
  | inrushTimerExpiry (c : Chan) (current : Nat)
  /-- LIMIT_TIMER_EXPIRY (R6, R8). -/
  | limitTimerExpiry (c : Chan)
  /-- SETTLE_TIMER_EXPIRY (R7). -/
  | settleTimerExpiry (c : Chan)
  /-- JUNCTION_HOT (R3, R9): the junction temperature has risen to that of the reading. -/
  | junctionHot (reading : JunctionReading)
  /-- JUNCTION_COOL (R3, R12): the junction temperature has fallen to that of the reading. -/
  | junctionCool (reading : JunctionReading)
  /-- COOLDOWN_TIMER_EXPIRY (R12). -/
  | cooldownTimerExpiry (c : Chan)
  /-- OFF_BLANKING_EXPIRY (R20), with the output voltage at that moment. -/
  | offBlankingExpiry (c : Chan) (voltage : Int)
  /-- OPEN_THRESHOLD_CROSSING (R18): the load current has moved to `current`. -/
  | openThresholdCrossing (c : Chan) (current : Nat)
  /-- OPEN_ON_QUALIFICATION_EXPIRY (R18). -/
  | openOnQualificationExpiry (c : Chan)
  /-- OPEN_ON_CURRENT_RECOVERY (R19): the load current has risen to `current`. -/
  | openOnCurrentRecovery (c : Chan) (current : Nat)
  /-- OUTPUT_VOLTAGE_WINDOW_CHANGE (R22, R23): the output voltage has moved to `voltage`. -/
  | outputVoltageWindowChange (c : Chan) (voltage : Int)
  /-- OPEN_OFF_QUALIFICATION_EXPIRY (R22). -/
  | openOffQualificationExpiry (c : Chan)
  /-- OPEN_OFF_CLEARING_EXPIRY (R22). -/
  | openOffClearingExpiry (c : Chan)
  /-- SHORT_SUPPLY_QUALIFICATION_EXPIRY (R23). -/
  | shortSupplyQualificationExpiry (c : Chan)
  /-- SHORT_SUPPLY_CLEARING_EXPIRY (R23). -/
  | shortSupplyClearingExpiry (c : Chan)
  /-- VF_CANDIDATE_CHANGE (R45): VF has moved to `vf`, at or above 8.0 V. -/
  | vfCandidateChange (vf : Nat)
  /-- SUPPLY_FILTER_EXPIRY (R45), with the output voltages at that moment. -/
  | supplyFilterExpiry (voltages : PerChan Int)
  /-- FIELD_DIE_STOP (R46): VF has fallen to `vf`, below 8.0 V. -/
  | fieldDieStop (vf : Nat)
  /-- FIELD_RESET_SUPPLY (R46): VF has risen above 9.0 V; `sense` is what the field die finds as it starts. -/
  | fieldResetSupply (sense : FieldSense)
  /-- AT_TIME_ENTRIES_DUE (R97). -/
  | atTimeEntriesDue
  /-- HOLD_COUNTDOWN_EXPIRY (R59). -/
  | holdCountdownExpiry (c : Chan)
  /-- NSTOP_ASSERTION (R55): the recognised level becomes LOW. -/
  | nstopAssertion
  /-- NSTOP_RELEASE (R56): the recognised level becomes HIGH. -/
  | nstopRelease
  /-- MARK_FALL (R148). -/
  | markFall
  /-- MARK_RISE (R148). -/
  | markRise
  /-- MARK_FILTER_EXPIRY (R149). -/
  | markFilterExpiry
  /-- SPACING_TIMER_EXPIRY (R149). -/
  | spacingTimerExpiry
  /-- NSTOP_FILTER_EXPIRY (R54): the recognised level becomes the level the pin has held. -/
  | nstopFilterExpiry
  /-- ACK_FRAME_RECEIVED (R162): the character, the second byte of the CRC, completes a valid ACK frame. -/
  | ackFrameReceived (line : RxLine)
  /-- COMMAND_FRAME_RECEIVED (R163): the character, the second byte of the CRC, completes a valid frame that is no ACK. -/
  | commandFrameReceived (line : RxLine)
  /-- RX_FRAME_DISCARD (R160): the character makes the receiver discard the frame it is assembling. -/
  | rxFrameDiscard (line : RxLine)
  /-- RX_GAP_TIMEOUT (R160). -/
  | rxGapTimeout
  /-- COMMAND_TAKEN (R165): the Command Engine takes the frame at the head of the inbound queue, whatever it holds. -/
  | commandTaken
  /-- PING (R179): the frame taken is the PING with this SEQ. -/
  | ping (seq : Byte)
  /-- READ_STATUS (R180). -/
  | readStatus (seq : Byte)
  /-- SET_OUTPUTS (R87, R181). -/
  | setOutputs (seq : Byte) (channels states : Half)
  /-- QUEUE_ACTION (R94, R182). -/
  | queueAction (seq tag trigger : Byte) (delay : BitVec 32) (channels states : Half) (revert : BitVec 32)
  /-- CANCEL_ACTION (R103, R183). -/
  | cancelAction (seq tag : Byte)
  /-- LIST_ACTIONS (R105, R184). -/
  | listActions (seq start : Byte)
  /-- CONFIGURE_CHANNEL (R32, R185). -/
  | configureChannel (seq : Byte) (channels : Half) (record : RecordBytes)
  /-- READ_CHANNEL (R187). -/
  | readChannel (seq channel : Byte)
  /-- CLEAR_FAULTS (R113, R188). -/
  | clearFaults (seq : Byte) (channels : Half) (kinds release : Byte)
  /-- SET_FILTER (R131, R189). -/
  | setFilter (seq index enabled : Byte) (kinds channels : Half) (action : Byte)
  /-- READ_FILTER (R132, R190). -/
  | readFilter (seq index clear : Byte)
  /-- READ_SNAPSHOT (R155, R191). -/
  | readSnapshot (seq : Byte)
  /-- SET_MODE (R170, R152, R192). -/
  | setMode (seq timeout auto : Byte)
  /-- SOFT_RESET (R173, R192). -/
  | softReset (seq : Byte)
  /-- WAIT_TIMER_EXPIRY (R166). -/
  | waitTimerExpiry
  /-- SILENCE_TIMEOUT (R171). -/
  | silenceTimeout
  /-- RETRANSMISSION_TIMER_EXPIRY (R143). -/
  | retransmissionTimerExpiry
  /-- RESPONSE_TAKEN_FOR_TRANSMISSION (R168). -/
  | responseTakenForTransmission
  /-- SNAPSHOT_FRAME_FORMED (R154). -/
  | snapshotFrameFormed
  /-- REPORT_FRAME_FORMED (R141). -/
  | reportFrameFormed
  /-- TRANSMISSION_COMPLETE (R169, R173); `straps` are RATE1 and RATE0, read if this ends a SOFT_RESET response. -/
  | transmissionComplete (straps : BitVec 2)
  /-- CONTROL_RESET_START (R172). -/
  | controlResetStart (cause : ResetPin)
  /-- CONTROL_RESET_END (R172); `straps` are RATE1 and RATE0 at that moment. -/
  | controlResetEnd (straps : BitVec 2)
  /-- QUIET_TIME_EXPIRY (R172). -/
  | quietTimeExpiry
  /-- CHARACTER_RECEIVED (R159): a character that neither completes nor breaks a frame. -/
  | characterReceived (line : RxLine)
  /-- NSTOP_PIN_CHANGE (R54): the NSTOP pin has moved to `level`. -/
  | nstopPinChange (level : Level)
  deriving DecidableEq, Repr

end Sys2Proof
end

