-- ==== Sys2Proof/Decode.lean ====
section
/-! DEFINITION. Reading a command from a word. spec/opcode_table.json gives no row any bits (every "fields" list is empty and
no row has "fixed"), so no word spells a command and the decoder refuses every word. The host link's own encodings, which do
have bits, are read by the receiver (Machine/HostLink.lean) and the Command Engine (Machine/Operands.lean). -/

namespace Sys2Proof

/-- The command that the word `w` of `nbits` bits spells by the table's bits: none, since no row of the table gives bits (DESIGN CHOICE,
safe; log entry 21). -/
def decodeTableWord (_nbits _w : Nat) : Option Instr := none

end Sys2Proof
end

