-- ==== Sys2Proof/Config.lean ====
section
/-! DEFINITION. What one implementation of the OC-12 fixes and the manual does not state. -/

namespace Sys2Proof

/-- The letter of the part's revision, counted from A (R179: "the revision letter of the part, as an ASCII capital letter").
The manual does not say which letter: the value is free, and nothing can be proved of it but that it is one of the twenty-six
(DESIGN CHOICE, safe; log entry 4). -/
opaque Config.revision : Fin 26

end Sys2Proof
end

