-- ==== Sys2Proof/Machine/Types.lean ====
section
/-! DEFINITION. The state that the blocks of TABLE 1 hold, block by block, and the frames that pass between the two dies and
between the part and the host. -/

namespace Sys2Proof.Machine

open Sys2Proof

/-! ## Configuration records (TABLE 17) -/

/-- The limit class: 0.5 A, 1.0 A or 2.0 A (TABLE 17). -/
inductive LimitClass where
  | low | mid | high
  deriving DecidableEq, Repr

/-- The open threshold: 2 mA, 10 mA or 40 mA (TABLE 17). -/
inductive OpenThreshold where
  | ma2 | ma10 | ma40
  deriving DecidableEq, Repr

/-- The open qualification time: 0.5 ms, 2 ms, 6 ms or 20 ms (TABLE 17). -/
inductive OpenQualification where
  | us500 | ms2 | ms6 | ms20
  deriving DecidableEq, Repr

/-- The fail action (TABLE 17, R51, R58). -/
inductive FailAction where
  | off | hold
  deriving DecidableEq, Repr

/-- A configuration record (R28). The times are counts of 10 ms, as the host sends them (TABLE 70). -/
structure ConfigRecord where
  limitClass : LimitClass
  inrush : Nat
  retryDelay : Nat
  retryBudget : Nat
  openThreshold : OpenThreshold
  openQualification : OpenQualification
  openOnEnable : Bool
  openOffEnable : Bool
  shortSupplyEnable : Bool
  failAction : FailAction
  holdTime : Nat
  deriving DecidableEq, Repr

/-! ## The Channel Supervisors (TABLE 10) -/

/-- The protection state of a channel (R1, TABLE 12). -/
inductive Protection where
  | off | starting | on | limiting | cooldown | locked
  deriving DecidableEq, Repr

/-- The cause of a trip (R10). -/
inductive TripCause where
  | overcurrent | overtemp
  deriving DecidableEq, Repr

/-- The cooldown timer (TABLE 10): stopped, running with its length in counts of 10 ms, or elapsed (R12). -/
inductive Cooldown where
  | stopped
  | running (length : Nat)
  | elapsed
  deriving DecidableEq, Repr

/-- The off-blanking timer (TABLE 10, R20); its length is 10 ms. -/
inductive Blanking where
  | stopped | running | elapsed
  deriving DecidableEq, Repr

/-- One of the two off-state detectors, OPEN_OFF (R22) or SHORT_SUPPLY (R23): whether its 6 ms qualification timer and its 6 ms
clearing timer run, and whether its condition is present. -/
structure OffDetector where
  qualifying : Bool
  clearing : Bool
  present : Bool
  deriving DecidableEq, Repr

/-- The state of a Channel Supervisor (TABLE 10). A timer is held as running or stopped, with its length, and its expiry is a command
(DESIGN CHOICE, safe; log entry 8). The OVERCURRENT condition is `inRegulation` and the OVERTEMP condition is
`hot` (R17): each is kept once. -/
structure Supervisor where
  protection : Protection
  retry : Nat
  /-- The temperature flag, HOT when set (R3). -/
  hot : Bool
  /-- The channel is in regulation (R2). -/
  inRegulation : Bool
  /-- The inrush timer with its length in counts of 10 ms, or none when it is stopped (R4, R5). -/
  inrush : Option Nat
  /-- The 2 ms limit timer runs (R6, R8). -/
  limitTimer : Bool
  /-- The 100 ms settle timer runs (R7). -/
  settleTimer : Bool
  cooldown : Cooldown
  blanking : Blanking
  /-- The OPEN_ON qualification timer with its length, or none when it is stopped (R18). -/
  openOnTimer : Option OpenQualification
  /-- The OPEN_ON condition (R18, R19). -/
  openOn : Bool
  openOff : OffDetector
  shortSupply : OffDetector
  /-- The five occurrence counters (R16). -/
  counters : PerKind Occurrences
  /-- The active configuration record (R28). -/
  record : ConfigRecord
  deriving DecidableEq, Repr

/-! ## The Barrier Link Responder and the Supply Monitor -/

/-- The supply band of a running field die (R44). DEAD is the field die stopped, and is never carried. -/
inductive Band where
  | dropout | low | normal
  deriving DecidableEq, Repr

/-- The field mode (R48). -/
inductive FieldMode where
  | waiting | active | safe
  deriving DecidableEq, Repr

/-- The cause of a field reset (R69). -/
inductive FieldCause where
  | supply | control
  deriving DecidableEq, Repr

/-- What the field side keeps for one channel: the Responder's items (TABLE 24, R37, R68) and the Channel Supervisor. -/
structure FieldChannel where
  /-- The effective demand, ON when set (R50). -/
  effective : Bool
  /-- The hold timer with its length in counts of 10 ms, or none when it is stopped (R51). -/
  hold : Option Nat
  /-- The last-seen release token (R68). -/
  token : Token
  /-- The applied generation, or none when it is absent (R37). -/
  applied : Option Gen
  supervisor : Supervisor
  deriving DecidableEq, Repr

/-- The state of a running field die: Barrier Link Responder, Supply Monitor and the twelve Channel Supervisors. -/
structure FieldSide where
  mode : FieldMode
  /-- The field boot flag (R69). -/
  boot : Bool
  /-- The cause of the last field reset (R69). -/
  cause : FieldCause
  /-- The received demand set (R49). -/
  received : ChanSet
  /-- The received stop flag (R49). -/
  stop : Bool
  /-- The consecutive-miss count, 0 to 255 (R66). -/
  misses : Nat
  /-- The cycle number (R66). -/
  cycle : Byte
  /-- The watch timer with its length in microseconds, or none when it does not run (R66, R69). -/
  watch : Option Nat
  /-- The 1 ms of silence after a field reset of cause SUPPLY has not yet passed (R69). -/
  silent : Bool
  /-- The supply band in force (R44). -/
  band : Band
  /-- The candidate band (R45). -/
  candidate : Band
  /-- The 1 ms supply filter timer runs (R45). -/
  filterTimer : Bool
  channels : PerChan FieldChannel
  deriving DecidableEq, Repr

/-! ## The frames of the barrier -/

/-- A configuration slot (TABLE 29, R81). -/
structure ConfigSlot where
  channel : Chan
  generation : Gen
  record : ConfigRecord
  deriving DecidableEq, Repr

/-- A drive frame (TABLE 29). The check is not kept: only frames whose check is right are taken (R65; DESIGN CHOICE, log entry
20). -/
structure DriveFrame where
  cycle : Byte
  controlBoot : Bool
  fieldBootSeen : Bool
  resume : Bool
  stop : Bool
  demand : ChanSet
  tokens : PerChan Token
  slot : Option ConfigSlot
  deriving DecidableEq, Repr

/-- The items of one channel in a status frame (TABLE 30). The logic side's mirrors of a channel have the same items
(TABLE 34), the last-seen token being the mirror called the echo. -/
structure ChannelStatus where
  protection : Protection
  retry : Nat
  conditions : PerKind Bool
  counters : PerKind Occurrences
  applied : Option Gen
  token : Token
  deriving DecidableEq, Repr

/-- A status frame (TABLE 30). -/
structure StatusFrame where
  cycle : Byte
  boot : Bool
  cause : FieldCause
  mode : FieldMode
  band : Band
  channels : PerChan ChannelStatus
  deriving DecidableEq, Repr

/-- The frames under way across the barrier: the drive frame of the present cycle, the status frames built in the present
cycle, oldest first, and those built in the cycle before it that have not been taken (DESIGN CHOICE, log entry 6). -/
structure Barrier where
  drive : Option DriveFrame
  status : List StatusFrame
  late : List StatusFrame
  deriving DecidableEq, Repr

/-! ## The Barrier Link Controller (TABLE 35) -/

/-- The link state (TABLE 32). -/
inductive LinkState where
  | syncing | up | degraded | lost
  deriving DecidableEq, Repr

/-- The state of the Barrier Link Controller (TABLE 35). -/
structure BarrierController where
  /-- Part time (R62). -/
  time : PartTime
  link : LinkState
  /-- The quality count, 0 to 255 (R71, R72). -/
  quality : Nat
  /-- The consecutive-miss count, 0 to 255 (R71). -/
  misses : Nat
  /-- The sync count (R73). -/
  sync : Nat
  /-- The control boot flag (R78). -/
  controlBoot : Bool
  /-- The field-boot-seen flag (R80). -/
  fieldBootSeen : Bool
  /-- The mirrored field boot flag (R79). -/
  mirrorBoot : Bool
  /-- The mirrored field mode (TABLE 34). -/
  mirrorMode : FieldMode
  /-- The slot pointer (R81). -/
  slotPointer : Chan
  /-- A good status frame has been taken in the present cycle (R65, R71). -/
  goodTaken : Bool
  deriving DecidableEq, Repr

/-! ## The Channel Table -/

/-- What the Channel Table keeps for one channel (TABLE 18, TABLE 34, TABLE 42, R58, R82). -/
structure ChannelEntry where
  /-- The configured record and its generation (R29). -/
  record : ConfigRecord
  generation : Gen
  pending : Bool
  /-- The doubt set (R29, R30). -/
  doubt : GenSet
  held : Bool
  /-- The release token (R82). -/
  token : Token
  /-- The mirrors of the channel (TABLE 34); `mirror.applied` is the mirrored applied generation and `mirror.token` the echo. -/
  mirror : ChannelStatus
  /-- The baselines (R110). -/
  baseline : PerKind Occurrences
  /-- The latched flags (R110). -/
  latched : PerKind Bool
  /-- The host-silence hold countdown in barrier cycles, or none when none runs (R58, R59). -/
  countdown : Option Nat
  deriving DecidableEq, Repr

/-- The state of the Channel Table, with the NSTOP pin that it watches. -/
structure ChannelTable where
  /-- The channels whose demand is ON (R86). -/
  demand : ChanSet
  entries : PerChan ChannelEntry
  /-- The mirrored supply band (TABLE 34). -/
  band : Band
  /-- The comparison is armed (R110). -/
  armed : Bool
  /-- The level at the NSTOP pin. -/
  nstopPin : Level
  /-- The recognised NSTOP level (R54). -/
  nstop : Level
  /-- The 5 µs NSTOP filter runs toward the level of the pin (R54). -/
  nstopFilter : Bool
  /-- The host-silent flag (R58). -/
  hostSilent : Bool
  deriving DecidableEq, Repr

/-! ## The Action Queue (TABLE 38) -/

/-- The phase of an entry (TABLE 38). -/
inductive Phase where
  | main | revert
  deriving DecidableEq, Repr

/-- The trigger of an entry (TABLE 38). -/
inductive Trigger where
  | atTime (due : PartTime)
  | atMark
  deriving DecidableEq, Repr

/-- An entry of the Action Queue (TABLE 38). Its insertion is its place in the queue's list: among entries of equal order the
one nearer the head was inserted earlier (R92). A MAIN entry with a revert delay holds one reservation (R90). -/
structure Action where
  tag : Byte
  phase : Phase
  trigger : Trigger
  channels : ChanSet
  /-- The channels of the set whose state is ON. -/
  states : ChanSet
  revert : Option PartTime
  deriving DecidableEq, Repr

/-! ## Events and the Report Unit -/

/-- The cause of a control reset (R172). -/
inductive ResetCause where
  | power | pin | command
  deriving DecidableEq, Repr

/-- The reason of a flush (R106). -/
inductive FlushReason where
  | stop | hostSilent
  deriving DecidableEq, Repr

/-- The detail of HOST_SILENT: BEGIN or END (TABLE 43). -/
inductive SilenceEdge where
  | begins | ends
  deriving DecidableEq, Repr

/-- The detail of STOP (TABLE 43). -/
inductive StopEdge where
  | asserted | released
  deriving DecidableEq, Repr

/-- The reason of RX_ERROR (TABLE 43). -/
inductive RxReason where
  | framing | gap | length | crc | dropped
  deriving DecidableEq, Repr

/-- An event: its kind, its channel if it has one, and its detail (TABLE 43). -/
inductive Event where
  | start (cause : ResetCause)
  | faultSet (c : Chan) (k : FaultKind)
  | faultCleared (c : Chan) (k : FaultKind)
  | retry (c : Chan) (count : Nat) (cause : TripCause)
  | locked (c : Chan) (cause : TripCause)
  | unlocked (c : Chan)
  | configApplied (c : Chan) (generation : Gen)
  | actionApplied (tag : Byte) (phase : Phase) (channels : ChanSet)
  | queueFlushed (reason : FlushReason) (count : Nat)
  | supply (old new : Band)
  | barrier (old new : LinkState)
  | fieldRestart (cause : FieldCause)
  | hostSilent (edge : SilenceEdge)
  | stop (edge : StopEdge)
  | rxError (reason : RxReason)
  | overflow (lost : Nat)
  deriving DecidableEq, Repr

/-- The delivery state of a record (R135). -/
inductive Delivery where
  | new | sent | resend
  deriving DecidableEq, Repr

/-- A record of the report queue (TABLE 47). -/
structure ReportRecord where
  seq : Half
  time : PartTime
  event : Event
  delivery : Delivery
  deriving DecidableEq, Repr

/-- The action of a filter table entry (TABLE 46). -/
inductive FilterAction where
  | report | count | drop
  deriving DecidableEq, Repr

/-- An entry of the filter table (TABLE 46). Bit k of `kinds` stands for the kind whose code is k (R189). -/
structure FilterEntry where
  enabled : Bool
  kinds : Half
  channels : ChanSet
  /-- NONE is a member of the channel set (R128). -/
  noChannel : Bool
  action : FilterAction
  /-- The match count, 0 to 65,535 (R130). -/
  count : Nat
  deriving DecidableEq, Repr

/-- The state of the Report Unit (TABLE 48). -/
structure ReportUnit where
  filter : Table 8 FilterEntry
  /-- The report queue, oldest record first (R134). -/
  queue : List ReportRecord
  /-- The next sequence number (R134). -/
  next : Half
  /-- The pending loss (R137). -/
  loss : Nat
  /-- The retransmission timer: the advances of part time it has counted, or none when it is stopped (R142). -/
  timer : Option Nat
  deriving DecidableEq, Repr

/-! ## Mark Capture (TABLE 51) -/

/-- The state of the edge recogniser (R148). Its filter timer runs exactly in FILTERING. -/
inductive Recogniser where
  | high | filtering | low
  deriving DecidableEq, Repr

/-- A snapshot (TABLE 53). -/
structure Snapshot where
  number : Half
  time : PartTime
  overwrites : Nat
  link : LinkState
  band : Band
  demand : ChanSet
  protections : PerChan Protection
  latched : PerChan (PerKind Bool)
  deriving DecidableEq, Repr

/-- The state of Mark Capture (TABLE 51), with the MARK pin that it watches. -/
structure MarkCapture where
  /-- The level at the MARK pin. -/
  pin : Level
  recogniser : Recogniser
  /-- The 100 µs spacing timer runs (R149). -/
  spacing : Bool
  /-- The capture number (R151). -/
  capture : Half
  last : Option Snapshot
  /-- Automatic reporting is on (R152). -/
  auto : Bool
  slot : Option Snapshot
  /-- The overwrite count, 0 to 255 (R153). -/
  overwrites : Nat
  deriving DecidableEq, Repr

/-! ## The Host Link and the Command Engine (TABLE 59) -/

/-- A frame of the host link without its SOF and CRC: the CRC of a valid frame is the one computed (R158). -/
structure Frame where
  seq : Byte
  kind : Byte
  payload : List Byte
  deriving DecidableEq, Repr

/-- The state of the receiver (TABLE 57). -/
inductive RxPhase where
  | hunt | header | body | check
  deriving DecidableEq, Repr

/-- The receiver (Section 9.3): "the frame it is assembling, a count of the bytes still expected, a running CRC, and a gap
timer". -/
structure Receiver where
  phase : RxPhase
  /-- The bytes taken after SOF, oldest first: LEN, SEQ, KIND, payload and the first CRC byte. -/
  bytes : List Byte
  /-- How many bytes are still expected in this phase. -/
  expected : Nat
  /-- The CRC over LEN, SEQ, KIND and the payload bytes taken so far (R158). -/
  crc : Half
  /-- The gap timer is started (R159). -/
  gap : Bool
  deriving DecidableEq, Repr

/-- A frame placed for transmission. The response of an executed SOFT_RESET is marked, since the control reset comes at its
last stop bit (R173). -/
structure TxFrame where
  frame : Frame
  endsInReset : Bool
  deriving DecidableEq, Repr

/-- TXD (R169, R172): idle, in the quiet time after a control reset, or sending a frame. -/
inductive Txd where
  | idle
  | quiet
  | sending (t : TxFrame)
  deriving DecidableEq, Repr

/-- The state of the Host Link (TABLE 59). -/
structure HostLink where
  rx : Receiver
  /-- RXD has not returned high since a break was received, so that no further character is received until it has (R157). -/
  broken : Bool
  /-- The error report flag is armed (R161). -/
  errorArmed : Bool
  /-- The inbound command queue, oldest frame first, 0 to 4 frames (R163). -/
  inbound : List Frame
  /-- The response queue, oldest frame first, 0 to 4 frames (R168). -/
  responses : List TxFrame
  txd : Txd
  /-- A response was placed and a REPORT frame offered at the same moment while TXD was idle with nothing waiting, and the arbiter has
  taken neither: either may be taken first (R169; log entry 24). -/
  tie : Bool
  /-- The unsolicited frame count (R158). -/
  unsolicited : Byte
  /-- The host silence timeout in counts of 10 ms, 0 when the timer is off (R170). -/
  timeout : Byte
  /-- The silence count in barrier cycles (R170). -/
  silence : Nat
  /-- The bit rate in force, as the code formed from RATE1 and RATE0 (R157, R179). -/
  rate : BitVec 2
  deriving DecidableEq, Repr

/-- What a waiting command waits for (R33, R116). CLEAR_FAULTS keeps the cleared and still-present kinds formed when it was
taken (R188). -/
inductive Awaited where
  | confirmation (channels : ChanSet)
  | release (cleared present : PerChan (PerKind Bool)) (channels : ChanSet)
  deriving DecidableEq, Repr

/-- The command in execution while the Command Engine is WAITING (R166), with the advances of part time its wait timer has
counted. -/
structure WaitingCommand where
  frame : Frame
  awaited : Awaited
  elapsed : Nat
  deriving DecidableEq, Repr

/-- The state of the Command Engine (TABLE 58). -/
inductive Engine where
  | idle
  | waiting (w : WaitingCommand)
  | resetting
  deriving DecidableEq, Repr

/-- The entry of the reply cache (R167). -/
structure CachedReply where
  seq : Byte
  crc : Half
  response : Frame
  deriving DecidableEq, Repr

/-- The Command Engine and the reply cache of the Host Link (R164, R167). -/
structure CommandEngine where
  engine : Engine
  cache : Option CachedReply
  deriving DecidableEq, Repr

end Sys2Proof.Machine
end

