-- ==== Sys2Proof/Machine/Bytes.lean ====
section
/-! DEFINITION. Byte order and the CRC: "Every field of more than one byte is sent high byte first" (R175), and the check of R158. -/

namespace Sys2Proof.Machine

open Sys2Proof

/-- The two bytes of a 16-bit field, high byte first (R175). -/
def bytes2 (h : Half) : List Byte := [h.extractLsb' 8 8, h.extractLsb' 0 8]

/-- The four bytes of a 32-bit field, high byte first (R175). -/
def bytes4 (w : BitVec 32) : List Byte :=
  [w.extractLsb' 24 8, w.extractLsb' 16 8, w.extractLsb' 8 8, w.extractLsb' 0 8]

/-- The five bytes of a 40-bit field, high byte first (R175, TABLE 73). -/
def bytes5 (w : BitVec 40) : List Byte :=
  [w.extractLsb' 32 8, w.extractLsb' 24 8, w.extractLsb' 16 8, w.extractLsb' 8 8, w.extractLsb' 0 8]

/-- The 16-bit field whose high byte is `a` and whose low byte is `b` (R175). -/
def join2 (a b : Byte) : Half := a ++ b

/-- The 32-bit field of four bytes, high byte first (R175). -/
def join4 (a b c d : Byte) : BitVec 32 := a ++ b ++ c ++ d

/-- A count carried in one byte. -/
def byteOf (n : Nat) : Byte := BitVec.ofNat 8 n

/-- A flag byte: 1 for set, 0 for clear (R175). -/
def flagByte (b : Bool) : Byte := if b then 1 else 0

/-- A channel set as the two bytes of its mask; bits 12 to 15 are 0 (R175). -/
def maskBytes (m : ChanSet) : List Byte := bytes2 (m.setWidth 16)

/-- A fault-kind set as its byte (R175): bit 0 OVERCURRENT to bit 4 SHORT_SUPPLY. -/
def kindsByte (p : PerKind Bool) : Byte :=
  (0#3) ++ BitVec.ofBool p.shortSupply ++ BitVec.ofBool p.openOff ++ BitVec.ofBool p.openOn ++ BitVec.ofBool p.overtemp
    ++ BitVec.ofBool p.overcurrent

/-- The fault-kind set that a byte carries (R175). -/
def kindsOfByte (b : Byte) : PerKind Bool where
  overcurrent := b.getLsbD 0
  overtemp := b.getLsbD 1
  openOn := b.getLsbD 2
  openOff := b.getLsbD 3
  shortSupply := b.getLsbD 4

/-- One bit of the CRC register's shift with generator polynomial 1021h (R158). -/
def crcShift (c : Half) : Half := if c.msb then (c <<< 1) ^^^ 0x1021 else c <<< 1

/-- One byte enters the CRC, most significant bit first (R158). -/
def crcByte (c : Half) (b : Byte) : Half :=
  crcShift (crcShift (crcShift (crcShift (crcShift (crcShift (crcShift (crcShift (c ^^^ (b ++ (0#8))))))))))

/-- The CRC of R158: initial value FFFFh, no reflection, no final value. -/
def crc16 (bytes : List Byte) : Half := bytes.foldl crcByte 0xFFFF

/-- LEN of a frame (TABLE 56). -/
def Frame.len (f : Frame) : Byte := byteOf f.payload.length

/-- The bytes that the CRC of a frame covers: LEN, SEQ, KIND and the payload (TABLE 56). -/
def Frame.covered (f : Frame) : List Byte := f.len :: f.seq :: f.kind :: f.payload

/-- The CRC of a frame (R158). -/
def Frame.crc (f : Frame) : Half := crc16 f.covered

/-- The bytes of a frame as they stand on the line, SOF first (TABLE 56, TABLE 65). -/
def Frame.bytes (f : Frame) : List Byte := 0xC3 :: (f.covered ++ bytes2 f.crc)

end Sys2Proof.Machine
end

