-- ==== Sys2Proof/Machine/Resets.lean ====
section
/-! DEFINITION. The values each block takes at a control reset (TABLE 34, 35, 39, 42, 48, 51, 59; R42, R61, R82, R147) and at a
field reset (TABLE 15, 24, 31; R27, R43, R46, R53), and the candidate band of TABLE 22, which a field reset forms at once. -/

namespace Sys2Proof.Machine

open Sys2Proof

/-- The default record (TABLE 17, R28). -/
def ConfigRecord.default : ConfigRecord where
  limitClass := .mid
  inrush := 0
  retryDelay := 10
  retryBudget := 3
  openThreshold := .ma10
  openQualification := .ms6
  openOnEnable := true
  openOffEnable := false
  shortSupplyEnable := true
  failAction := .off
  holdTime := 10

/-! ## The field side -/

/-- The candidate band formed from the band in force and VF in millivolts (TABLE 22, R45). A VF of exactly 14.0 V, 17.5 V or
18.5 V lies in the column that names it ("from … to …", both ends included). -/
def candidateBand (band : Band) (vf : Nat) : Band :=
  if vf < 13000 then .dropout
  else match band with
    | .normal => if vf < 17500 then .low else .normal
    | .low => if vf ≤ 18500 then .low else .normal
    | .dropout => if vf ≤ 14000 then .dropout else if vf ≤ 18500 then .low else .normal

/-- The junction temperature has reached 160 °C (R3, R27). -/
def reachesHot (junction : Int) : Bool := decide (160000 ≤ junction)

/-- The junction temperature has fallen below 145 °C (R3). -/
def fallsCool (junction : Int) : Bool := decide (junction < 145000)

/-- The temperature flag, `hot` before, with the junction at `junction` (R3): HOT from 160 °C on, COOL below 145 °C, and between those
two temperatures as it was. -/
def flagAt (hot : Bool) (junction : Int) : Bool := reachesHot junction || (hot && !fallsCool junction)

/-- The temperature flag taken from the sensor at a field reset: HOT at or above 160 °C, otherwise COOL (R27). -/
def hotAtReset (junction : Int) : Bool := reachesHot junction

/-- A stopped off-state detector with its condition absent (TABLE 15). -/
def OffDetector.reset : OffDetector := ⟨false, false, false⟩

/-- A Channel Supervisor after a field reset (TABLE 15). -/
def Supervisor.reset (junction : Int) : Supervisor where
  protection := .off
  retry := 0
  hot := hotAtReset junction
  inRegulation := false
  inrush := none
  limitTimer := false
  settleTimer := false
  cooldown := .stopped
  blanking := .running
  openOnTimer := none
  openOn := false
  openOff := OffDetector.reset
  shortSupply := OffDetector.reset
  counters := PerKind.all 0
  record := ConfigRecord.default

/-- What the field side keeps for a channel after a field reset (TABLE 15, 24, 31). -/
def FieldChannel.reset (junction : Int) : FieldChannel where
  effective := false
  hold := none
  token := 0
  applied := none
  supervisor := Supervisor.reset junction

/-- The field side after a field reset (TABLE 15, 24, 31; R46, R69): of cause SUPPLY, with the 1 ms of silence begun, no watch
timer and a cycle number of 0; of cause CONTROL, with the watch timer started at 60 µs and the cycle number `cycle` of the
drive frame that caused the reset. -/
def FieldSide.reset (cause : FieldCause) (cycle : Byte) (sense : FieldSense) : FieldSide where
  mode := .waiting
  boot := true
  cause := cause
  received := 0
  stop := false
  misses := 0
  cycle := match cause with
    | .supply => 0
    | .control => cycle
  watch := match cause with
    | .supply => none
    | .control => some 60
  silent := decide (cause = .supply)
  band := .dropout
  candidate := candidateBand .dropout sense.vf
  filterTimer := decide (candidateBand .dropout sense.vf ≠ .dropout)
  channels := Table.ofFn fun c => FieldChannel.reset (sense.loads.get c).junction

/-! ## The logic side -/

/-- The mirrors of a channel after a control reset (TABLE 34). -/
def ChannelStatus.reset : ChannelStatus where
  protection := .off
  retry := 0
  conditions := PerKind.all false
  counters := PerKind.all 0
  applied := none
  token := 0

/-- A channel in the Channel Table after a control reset (R42, R82, R126, TABLE 42). -/
def ChannelEntry.reset : ChannelEntry where
  record := ConfigRecord.default
  generation := 0
  pending := false
  doubt := 0
  held := false
  token := 0
  mirror := ChannelStatus.reset
  baseline := PerKind.all 0
  latched := PerKind.all false
  countdown := none

/-- The Channel Table after a control reset (R42, R54, R61, R110, TABLE 34, 39), with the NSTOP pin at level `nstopPin`: the
recognised level is HIGH and the filter starts at once if the pin is low. -/
def ChannelTable.reset (nstopPin : Level) : ChannelTable where
  demand := 0
  entries := Table.all ChannelEntry.reset
  band := .dropout
  armed := false
  nstopPin := nstopPin
  nstop := .high
  nstopFilter := decide (nstopPin = .low)
  hostSilent := false

/-- The Barrier Link Controller after a control reset (TABLE 35). -/
def BarrierController.reset : BarrierController where
  time := 0
  link := .syncing
  quality := 0
  misses := 0
  sync := 0
  controlBoot := true
  fieldBootSeen := false
  mirrorBoot := false
  mirrorMode := .waiting
  slotPointer := 11
  goodTaken := false

/-- The first drive frame after a control reset (R85): "the control boot flag, an empty demand set, tokens of 0, no
configuration slot and no resume flag"; the stop flag is clear, the recognised NSTOP level being HIGH (R54). -/
def DriveFrame.first : DriveFrame where
  cycle := 0
  controlBoot := true
  fieldBootSeen := false
  resume := false
  stop := false
  demand := 0
  tokens := Table.all 0
  slot := none

/-- A filter table entry after a control reset (TABLE 46). -/
def FilterEntry.reset : FilterEntry where
  enabled := false
  kinds := 0
  channels := 0
  noChannel := false
  action := .report
  count := 0

/-- The START record (R139). -/
def ReportRecord.start (cause : ResetCause) : ReportRecord where
  seq := 0
  time := 0
  event := .start cause
  delivery := .new

/-- The Report Unit after a control reset (R139, R147, TABLE 48). -/
def ReportUnit.reset (cause : ResetCause) : ReportUnit where
  filter := Table.all FilterEntry.reset
  queue := [ReportRecord.start cause]
  next := 1
  loss := 0
  timer := none

/-- Mark Capture after a control reset, with the MARK pin at level `pin` (R149, R156, TABLE 51). -/
def MarkCapture.reset (pin : Level) : MarkCapture where
  pin := pin
  recogniser := match pin with
    | .high => .high
    | .low => .low
  spacing := false
  capture := 0
  last := none
  auto := false
  slot := none
  overwrites := 0

/-- The receiver in HUNT with its gap timer stopped (R159, TABLE 59). Nothing is being assembled, and TABLE 59 gives no value for the count
of bytes still expected and none for the running CRC, neither of which is read in HUNT: the model puts 0 and FFFFh (DESIGN CHOICE,
unsafe; log entry 26). -/
def Receiver.hunt : Receiver where
  phase := .hunt
  bytes := []
  expected := 0
  crc := 0xFFFF
  gap := false

/-- The Host Link after a control reset that ends with the straps at `straps` (R157, R172, TABLE 59). No break is in force: RXD is
ignored while the reset is held (R172; DESIGN CHOICE, log entry 13). -/
def HostLink.reset (straps : BitVec 2) : HostLink where
  rx := Receiver.hunt
  broken := false
  errorArmed := true
  inbound := []
  responses := []
  txd := .quiet
  tie := false
  unsolicited := 0
  timeout := 0
  silence := 0
  rate := straps

/-- The Command Engine after a control reset (TABLE 59). -/
def CommandEngine.reset : CommandEngine where
  engine := .idle
  cache := none

end Sys2Proof.Machine
end

