-- ==== Sys2Proof/Machine/ChannelTable.lean ====
section
/-! DEFINITION. The Channel Table: generations and the configuration records (Chapter 2), release tokens (R82, R115), taking a good
status frame (R83) with the confirmations (R36), latches (R111) and events (R119, R122) it leads to, clearing latches (R113),
and the writes of demand (R86). Each is a function on the Channel Table's own state. -/

namespace Sys2Proof.Machine

open Sys2Proof

/-! ## Generations (R31) -/

/-- The generation is a member of the set. -/
def GenSet.has (d : GenSet) (g : Gen) : Bool := d.getLsbD g.toNat

/-- The set with the generation added (R30). -/
def GenSet.add (d : GenSet) (g : Gen) : GenSet := d ||| BitVec.twoPow 8 g.toNat

/-- The values after `g`, counting upward modulo 8, other than `g` itself (R31). -/
def gensAfter (g : Gen) : List Gen := [g + 1, g + 2, g + 3, g + 4, g + 5, g + 6, g + 7]

/-- The generation may be taken next: it is neither the mirrored applied generation nor in the doubt set (R31). -/
def ChannelEntry.allows (e : ChannelEntry) (g : Gen) : Bool :=
  decide (e.mirror.applied ≠ some g) && !GenSet.has e.doubt g

/-- The configured generation is advanced (R31): to the first value after the present one that is allowed; if every other value is
excluded, to the first that is not the mirrored applied generation, and the channel becomes held. -/
def ChannelEntry.advance (e : ChannelEntry) : ChannelEntry :=
  match (gensAfter e.generation).find? e.allows with
  | some g => { e with generation := g }
  | none =>
    match (gensAfter e.generation).find? fun g => decide (e.mirror.applied ≠ some g) with
    | some g => { e with generation := g, held := true }
    | none => e

/-- The channel is made pending under an advanced generation (R32, R36, R41). -/
def ChannelEntry.repend (e : ChannelEntry) : ChannelEntry := { e.advance with pending := true }

/-- A CONFIGURE_CHANNEL writes the record `r` to the channel (R32). -/
def ChannelEntry.configure (e : ChannelEntry) (r : ConfigRecord) : ChannelEntry := { e with record := r }.repend

/-- CONFIGURE_CHANNEL writes the record to every channel of the set (R32). -/
def ChannelTable.configure (t : ChannelTable) (channels : ChanSet) (r : ConfigRecord) : ChannelTable :=
  { t with entries := t.entries.mapIdx fun c e => if ChanSet.has channels c then e.configure r else e }

/-- The channels whose pending flag is set; a held channel is pending (R29). -/
def ChannelTable.pendingSet (t : ChannelTable) : ChanSet := t.entries.members ChannelEntry.pending

/-! ## The configuration slot (R81) -/

/-- The channels in the order in which the slot schedule looks at them: from the one after the pointer, wrapping from 11 to 0, to
the pointer's own (R81). -/
def slotOrder (pointer : Chan) : List Chan :=
  [pointer + 1, pointer + 2, pointer + 3, pointer + 4, pointer + 5, pointer + 6, pointer + 7, pointer + 8, pointer + 9,
    pointer + 10, pointer + 11, pointer]

/-- The channel is offered to the configuration slot: pending and not held (R30, R81). -/
def ChannelEntry.offered (e : ChannelEntry) : Bool := e.pending && !e.held

/-- The channel that the next configuration slot carries, or none (R81). -/
def ChannelTable.nextSlot (t : ChannelTable) (pointer : Chan) : Option Chan :=
  (slotOrder pointer).find? fun c => (t.entries.get c).offered

/-- The configuration slot for channel `c` (R81). -/
def ChannelTable.slotFor (t : ChannelTable) (c : Chan) : ConfigSlot :=
  ⟨c, (t.entries.get c).generation, (t.entries.get c).record⟩

/-- The channel's generation is carried in a slot and added to its doubt set (R30). -/
def ChannelTable.noteSlot (t : ChannelTable) (c : Chan) : ChannelTable :=
  { t with entries := t.entries.update c fun e => { e with doubt := GenSet.add e.doubt e.generation } }

/-! ## Taking a good status frame (R83) -/

/-- The mirrors of a channel are replaced and its doubt set is emptied; a hold ends, with an advance if the mirrored applied
generation equals the configured one (R30). -/
def ChannelEntry.mirrorFrame (e : ChannelEntry) (m : ChannelStatus) : ChannelEntry :=
  let e1 : ChannelEntry := { e with mirror := m, doubt := 0 }
  if e1.held then { (if m.applied = some e1.generation then e1.advance else e1) with held := false } else e1

/-- The replay of a channel at the detection of a field restart (R41), with its token and echo mirror returned to 0 (R82). -/
def ChannelEntry.replay (e : ChannelEntry) : ChannelEntry :=
  { e.repend with token := 0, mirror := { e.mirror with token := 0 } }

/-- The channel is confirmed by the mirrors as they stand (R36). -/
def ChannelEntry.confirms (e : ChannelEntry) : Bool :=
  e.pending && !e.held && decide (e.mirror.applied = some e.generation)

/-- The confirmation test and the re-pending of a channel (R36). -/
def ChannelEntry.settle (e : ChannelEntry) : ChannelEntry :=
  if e.confirms then { e with pending := false }
  else if !e.pending && decide (e.mirror.applied ≠ some e.generation) then e.repend
  else e

/-- The kinds whose occurrence counter differs between two sets of counters (R111). -/
def changedKinds (old new : PerKind Occurrences) : PerKind Bool :=
  PerKind.ofFn fun k => decide (old.get k ≠ new.get k)

/-- The union of two sets of kinds. -/
def unionKinds (a b : PerKind Bool) : PerKind Bool := PerKind.ofFn fun k => a.get k || b.get k

/-- The FAULT_SET events of a channel, in fault-kind order: one for each kind whose counter has changed and whose latch is clear
(R111). -/
def faultEvents (c : Chan) (latched changed : PerKind Bool) : List Event :=
  (allKinds.filter fun k => changed.get k && !latched.get k).map fun k => .faultSet c k

/-- A trip counter, OVERCURRENT or OVERTEMP, has changed (R119). -/
def tripChanged (changed : PerKind Bool) : Bool := changed.overcurrent || changed.overtemp

/-- The cause that RETRY and LOCKED carry (R120). -/
def eventCause (changed : PerKind Bool) : TripCause := if changed.overtemp then .overtemp else .overcurrent

/-- The protection event of a channel, from the mirrored state before the frame to the status the frame shows (R119). -/
def protectionEvent (c : Chan) (old : Protection) (m : ChannelStatus) (changed : PerKind Bool) : List Event :=
  if old = .locked ∧ m.protection ≠ .locked then [.unlocked c]
  else if m.protection = .locked ∧ (old ≠ .locked ∨ tripChanged changed) then [.locked c (eventCause changed)]
  else if m.protection = .cooldown ∧ (old ≠ .cooldown ∨ tripChanged changed) then
    [.retry c m.retry (eventCause changed)]
  else []

/-- The events a channel raises from a good status frame, in the order of R122: FAULT_SET, then the protection event, both only
while the comparison is armed (R110), then CONFIG_APPLIED. `e` is the entry before the frame. -/
def channelEvents (armed : Bool) (c : Chan) (e : ChannelEntry) (m : ChannelStatus) : List Event :=
  let changed := changedKinds e.baseline m.counters
  (if armed then faultEvents c e.latched changed ++ protectionEvent c e.mirror.protection m changed else [])
    ++ (if (e.mirrorFrame m).confirms then [.configApplied c (e.mirrorFrame m).generation] else [])

/-- A channel takes a good status frame in which no field restart is detected (R30, R36, R110, R111). -/
def ChannelEntry.takeFrame (armed : Bool) (e : ChannelEntry) (m : ChannelStatus) : ChannelEntry :=
  { (e.mirrorFrame m).settle with
    baseline := m.counters
    latched := if armed then unionKinds e.latched (changedKinds e.baseline m.counters) else e.latched }

/-- A channel takes the good status frame in which a field restart is detected (R30, R41, R82, R112). -/
def ChannelEntry.takeRestart (e : ChannelEntry) (m : ChannelStatus) : ChannelEntry :=
  { (e.mirrorFrame m).replay with baseline := m.counters }

/-- The Channel Table takes a good status frame (R83); `restart` says that a field restart was detected in it, which also arms the
comparison (R110, R112). The band mirror takes the band that the frame shows (R44, R83). R125 and R156 say that a field restart makes it
DROPOUT in the frame of the detection; if that frame shows LOW or NORMAL, the model takes the frame's band (DESIGN CHOICE, unsafe; log
entry 27). -/
def ChannelTable.takeFrame (t : ChannelTable) (f : StatusFrame) (restart : Bool) : ChannelTable :=
  { t with
    entries := t.entries.mapIdx fun c e =>
      if restart then e.takeRestart (f.channels.get c) else e.takeFrame t.armed (f.channels.get c)
    band := f.band
    armed := t.armed || restart }

/-- The SUPPLY event of a frame, when the mirrored band changes (R44, R122). -/
def supplyEvents (old new : Band) : List Event := if old = new then [] else [.supply old new]

/-- The events the Channel Table raises from a good status frame, in the order of R122 (its steps 2 and 3). -/
def ChannelTable.frameEvents (t : ChannelTable) (f : StatusFrame) (restart : Bool) : List Event :=
  (if restart then []
   else allChans.flatMap fun c => channelEvents t.armed c (t.entries.get c) (f.channels.get c))
    ++ supplyEvents t.band f.band

/-! ## CLEAR_FAULTS (R113, R115) -/

/-- The latches of a channel that CLEAR_FAULTS clears: of the kind set, set, with the condition mirrored absent (R113). -/
def ChannelEntry.clearable (e : ChannelEntry) (kinds : PerKind Bool) : PerKind Bool :=
  PerKind.ofFn fun k => kinds.get k && e.latched.get k && !e.mirror.conditions.get k

/-- The latches of a channel that CLEAR_FAULTS lists as still present (R113). -/
def ChannelEntry.stillPresent (e : ChannelEntry) (kinds : PerKind Bool) : PerKind Bool :=
  PerKind.ofFn fun k => kinds.get k && e.latched.get k && e.mirror.conditions.get k

/-- A set of kinds without those of another. -/
def withoutKinds (a b : PerKind Bool) : PerKind Bool := PerKind.ofFn fun k => a.get k && !b.get k

/-- The empty set of kinds outside a channel set: the list of CLEAR_FAULTS' response has an empty entry there (R188). -/
def withinSet (channels : ChanSet) (c : Chan) (p : PerKind Bool) : PerKind Bool :=
  if ChanSet.has channels c then p else PerKind.all false

/-- The cleared kinds of every channel (R113, R188). -/
def ChannelTable.clearedKinds (t : ChannelTable) (channels : ChanSet) (kinds : PerKind Bool) : PerChan (PerKind Bool) :=
  t.entries.mapIdx fun c e => withinSet channels c (e.clearable kinds)

/-- The still-present kinds of every channel (R113, R188). -/
def ChannelTable.presentKinds (t : ChannelTable) (channels : ChanSet) (kinds : PerKind Bool) : PerChan (PerKind Bool) :=
  t.entries.mapIdx fun c e => withinSet channels c (e.stillPresent kinds)

/-- The latches listed in `cleared` are cleared (R113). -/
def ChannelTable.clearLatches (t : ChannelTable) (cleared : PerChan (PerKind Bool)) : ChannelTable :=
  { t with entries := t.entries.mapIdx fun c e => { e with latched := withoutKinds e.latched (cleared.get c) } }

/-- The FAULT_CLEARED events, by channel in ascending order and in fault-kind order within a channel (R123). -/
def clearedEvents (cleared : PerChan (PerKind Bool)) : List Event :=
  allChans.flatMap fun c => (allKinds.filter fun k => (cleared.get c).get k).map fun k => .faultCleared c k

/-- A release is outstanding for the channel (R82). -/
def ChannelEntry.outstanding (e : ChannelEntry) : Bool := decide (e.token ≠ e.mirror.token)

/-- The channels on which a release is outstanding (R82). -/
def ChannelTable.outstandingSet (t : ChannelTable) : ChanSet := t.entries.members ChannelEntry.outstanding

/-- The channel's mirrored protection state is LOCKED (R84). -/
def ChannelEntry.mirroredLocked (e : ChannelEntry) : Bool := decide (e.mirror.protection = .locked)

/-- The channels mirrored LOCKED (R88, R115). -/
def ChannelTable.lockedSet (t : ChannelTable) : ChanSet := t.entries.members ChannelEntry.mirroredLocked

/-- The tokens of the channels of the release set on which no release is outstanding are advanced (R115). -/
def ChannelTable.advanceTokens (t : ChannelTable) (releaseSet : ChanSet) : ChannelTable :=
  { t with
    entries := t.entries.mapIdx fun c e =>
      if ChanSet.has releaseSet c && !e.outstanding then { e with token := e.token + 1 } else e }

/-! ## Demand, NSTOP and host silence -/

/-- One write of demand (R86): the channels of `channels` take the states of `states`, and the others keep theirs. -/
def writeDemand (demand channels states : ChanSet) : ChanSet := (demand &&& ~~~channels) ||| (states &&& channels)

/-- Every hold countdown is cancelled (R55, R60). -/
def ChannelTable.cancelCountdowns (t : ChannelTable) : ChannelTable :=
  { t with entries := t.entries.map fun e => { e with countdown := none } }

/-- The hold countdowns count an advance of part time (R59). -/
def ChannelTable.tick (t : ChannelTable) : ChannelTable :=
  { t with entries := t.entries.map fun e => { e with countdown := e.countdown.map fun n => n - 1 } }

/-- The recognised NSTOP level becomes LOW (R54, R55): every demand is set OFF and every hold countdown is cancelled. -/
def ChannelTable.assertStop (t : ChannelTable) : ChannelTable :=
  { t.cancelCountdowns with demand := 0, nstop := .low, nstopFilter := false }

/-- The recognised NSTOP level becomes HIGH (R54, R56): no demand is restored. -/
def ChannelTable.releaseStop (t : ChannelTable) : ChannelTable := { t with nstop := .high, nstopFilter := false }

/-- The NSTOP pin moves to `level` (R54): the filter runs from zero toward a level that differs from the recognised one, and is
abandoned when the pin returns. -/
def ChannelTable.nstopMoves (t : ChannelTable) (level : Level) : ChannelTable :=
  { t with nstopPin := level, nstopFilter := decide (level ≠ t.nstop) }

/-- Barrier cycles in a hold time of `n` counts of 10 ms (R58). -/
def holdCycles (n : Nat) : Nat := 200 * n

/-- A channel of demand `on` at the beginning of host silence (R58): its hold countdown starts if its fail action is HOLD and its
demand is ON. -/
def ChannelEntry.failCountdown (e : ChannelEntry) (on : Bool) : ChannelEntry :=
  match e.record.failAction with
  | .hold => if on then { e with countdown := some (holdCycles e.record.holdTime) } else e
  | .off => e

/-- The channels whose configured fail action is HOLD (R40, R58). -/
def ChannelTable.holdSet (t : ChannelTable) : ChanSet := t.entries.members fun e => decide (e.record.failAction = .hold)

/-- Host silence begins at the Channel Table (R58). -/
def ChannelTable.beginSilence (t : ChannelTable) : ChannelTable :=
  { t with
    hostSilent := true
    demand := t.demand &&& t.holdSet
    entries := t.entries.mapIdx fun c e => e.failCountdown (ChanSet.has t.demand c) }

/-- Host silence ends at the Channel Table (R60). -/
def ChannelTable.endSilence (t : ChannelTable) : ChannelTable := { t.cancelCountdowns with hostSilent := false }

/-- A hold countdown of channel `c` has reached zero (R59): the demand is set OFF and the countdown ends. -/
def ChannelTable.countdownEnds (t : ChannelTable) (c : Chan) : ChannelTable :=
  { t with
    demand := writeDemand t.demand (BitVec.twoPow 12 c.val) 0
    entries := t.entries.update c fun e => { e with countdown := none } }

end Sys2Proof.Machine
end

