-- ==== Sys2Proof/Machine/Queue.lean ====
section
/-! DEFINITION. The Action Queue (Chapter 5) as a list in queue order: due times, places, insertion and the choice of the entries
that fall due. What applying an entry writes stands in Machine/Ops.lean. -/

namespace Sys2Proof.Machine

open Sys2Proof

/-- The places of the Action Queue (R91). -/
def queuePlaces : Nat := 16

/-- The due time is reached (R93, 00_scope.md Section 1.5.3). -/
def reached (now due : PartTime) : Bool := decide ((now - due).toNat < 2147483648)

/-- The time remaining until a due time, 0 once it is reached (R93). -/
def remaining (now due : PartTime) : Nat := if reached now due then 0 else (due - now).toNat

/-- The entry is due at a part time (R97). -/
def Action.isDue (now : PartTime) (a : Action) : Bool :=
  match a.trigger with
  | .atTime due => reached now due
  | .atMark => false

/-- The entry's trigger is AT_MARK. -/
def Action.isMark (a : Action) : Bool :=
  match a.trigger with
  | .atTime _ => false
  | .atMark => true

/-- The entry holds a reservation: a MAIN entry with a revert delay (R90). -/
def Action.reserves (a : Action) : Bool := decide (a.phase = .main) && a.revert.isSome

/-- The number of reservations (R90). -/
def reservations (q : List Action) : Nat := q.countP Action.reserves

/-- The places taken: entries and reservations (R91). -/
def placesTaken (q : List Action) : Nat := q.length + reservations q

/-- The places a QUEUE_ACTION needs (R91, R182). -/
def placesNeeded (revert : Option PartTime) : Nat := if revert.isSome then 2 else 1

/-- The places freed by the removal of an entry (R103). -/
def Action.placesFreed (a : Action) : Nat := if a.reserves then 2 else 1

/-- The new entry stands before `b` in queue order (R92): before every AT_MARK entry if it is AT_TIME, and before an AT_TIME entry
whose time remaining is longer. An entry of equal order was inserted earlier and stays in front. -/
def standsBefore (now : PartTime) (a b : Action) : Bool :=
  match a.trigger, b.trigger with
  | .atTime da, .atTime db => decide (remaining now da < remaining now db)
  | .atTime _, .atMark => true
  | .atMark, _ => false

/-- The entry joins the queue in queue order (R92). -/
def insertAction (now : PartTime) (a : Action) : List Action → List Action
  | [] => [a]
  | b :: rest => if standsBefore now a b then a :: b :: rest else b :: insertAction now a rest

/-- The entry that carries the tag, in either phase (R91, R103). -/
def findTag (q : List Action) (tag : Byte) : Option Action := q.find? fun a => decide (a.tag = tag)

/-- The queue without the entry that carries the tag. -/
def removeTag (q : List Action) (tag : Byte) : List Action := q.filter fun a => decide (a.tag ≠ tag)

/-- The REVERT entry that the application of `a` at part time `now` makes, from the demand `before` that stood immediately before
it (R99): none unless `a` is a MAIN entry with a revert delay. -/
def Action.revertEntry (a : Action) (now : PartTime) (before : ChanSet) : Option Action :=
  match a.phase, a.revert with
  | .main, some delay =>
    some ⟨a.tag, .revert, .atTime (now + delay), a.channels, before &&& a.channels, none⟩
  | _, _ => none

/-- The queue after the application of `a` (R98): the entry leaves it, and its reservation becomes the REVERT entry. -/
def applyToQueue (q : List Action) (a : Action) (now : PartTime) (before : ChanSet) : List Action :=
  match a.revertEntry now before with
  | some r => insertAction now r (removeTag q a.tag)
  | none => removeTag q a.tag

/-- The digit of a channel in the channel code (R184): 0 outside the set, 1 for OFF, 2 for ON. -/
def Action.digit (a : Action) (c : Chan) : Nat :=
  if ChanSet.has a.channels c then (if ChanSet.has a.states c then 2 else 1) else 0

/-- The channel code of an entry (R184): the sum over the channels of the digit multiplied by 3 to the power of the channel. -/
def Action.channelCode (a : Action) : Nat := allChans.foldr (fun c acc => a.digit c * 3 ^ c.val + acc) 0

/-- The entry type of a descriptor (R184). -/
def Action.typeCode (a : Action) : BitVec 2 :=
  match a.phase, a.trigger with
  | .revert, _ => 2
  | .main, .atTime _ => 0
  | .main, .atMark => 1

/-- The due time a descriptor or a response carries, 0 for AT_MARK (R182, R184). -/
def Action.dueField (a : Action) : PartTime :=
  match a.trigger with
  | .atTime due => due
  | .atMark => 0

end Sys2Proof.Machine
end

