-- ==== Sys2Proof/Machine/Operands.lean ====
section
/-! DEFINITION. The host's command frames: the payload of each command (TABLE 62, TABLE 69), its field values check (R175, R177
steps 1 to 3, R181 to R192), and the configuration record's bytes (TABLE 70). -/

namespace Sys2Proof.Machine

open Sys2Proof

/-! ## Statuses (TABLE 63) -/

/-- The status of a response (TABLE 63). -/
inductive Status where
  | ok | pending | timeout | busy | badKind | badLength | badValue | stopped | queueFull | duplicateTag | notFound
  | unavailable
  deriving DecidableEq, Repr

/-- The code of a status (TABLE 63). -/
def Status.code : Status → Byte
  | .ok => 0x00
  | .pending => 0x01
  | .timeout => 0x02
  | .busy => 0x03
  | .badKind => 0x10
  | .badLength => 0x11
  | .badValue => 0x12
  | .stopped => 0x20
  | .queueFull => 0x21
  | .duplicateTag => 0x22
  | .notFound => 0x23
  | .unavailable => 0x24

/-! ## Kinds and lengths (TABLE 62) -/

/-- The fourteen commands (TABLE 62). -/
inductive CommandKind where
  | ping | readStatus | setOutputs | queueAction | cancelAction | listActions | configureChannel | readChannel
  | clearFaults | setFilter | readFilter | readSnapshot | setMode | softReset
  deriving DecidableEq, Repr

/-- KIND of a command (TABLE 62). -/
def CommandKind.code : CommandKind → Byte
  | .ping => 0x01
  | .readStatus => 0x02
  | .setOutputs => 0x10
  | .queueAction => 0x11
  | .cancelAction => 0x12
  | .listActions => 0x13
  | .configureChannel => 0x20
  | .readChannel => 0x21
  | .clearFaults => 0x22
  | .setFilter => 0x30
  | .readFilter => 0x31
  | .readSnapshot => 0x40
  | .setMode => 0x41
  | .softReset => 0x7F

/-- The command that a KIND names, or none (R177 step 1). -/
def CommandKind.ofCode (k : Byte) : Option CommandKind :=
  match k.toNat with
  | 0x01 => some .ping
  | 0x02 => some .readStatus
  | 0x10 => some .setOutputs
  | 0x11 => some .queueAction
  | 0x12 => some .cancelAction
  | 0x13 => some .listActions
  | 0x20 => some .configureChannel
  | 0x21 => some .readChannel
  | 0x22 => some .clearFaults
  | 0x30 => some .setFilter
  | 0x31 => some .readFilter
  | 0x40 => some .readSnapshot
  | 0x41 => some .setMode
  | 0x7F => some .softReset
  | _ => none

/-- LEN of a command (TABLE 62). -/
def CommandKind.length : CommandKind → Nat
  | .ping | .readStatus | .readSnapshot | .softReset => 0
  | .cancelAction | .listActions | .readChannel => 1
  | .readFilter | .setMode => 2
  | .setOutputs | .clearFaults => 4
  | .setFilter => 7
  | .configureChannel => 10
  | .queueAction => 14

/-- KIND of the ACK frame (TABLE 66). -/
def ackKind : Byte := 0x60

/-- KIND of a REPORT frame (TABLE 66). -/
def reportKind : Byte := 0xE0

/-- KIND of a SNAPSHOT frame (TABLE 66). -/
def snapshotKind : Byte := 0xE1

/-- KIND of a BUSY notice (TABLE 66). -/
def busyKind : Byte := 0xEF

/-- KIND of the response to a command frame (R158, R176). -/
def responseKind (k : Byte) : Byte :=
  if k < 0x60 ∨ (0x70 ≤ k ∧ k < 0x80) then k + 0x80 else 0xFF

/-! ## Field values (R175, R177 step 3) -/

/-- The channel set that a mask of two bytes carries, or none if a bit that stands for no channel is set (R175). -/
def maskOf (h : Half) : Option ChanSet :=
  if h.extractLsb' 12 4 = 0 then some (h.extractLsb' 0 12) else none

/-- A flag byte's flag, or none for a value other than 0 or 1 (R175). -/
def flagOf (b : Byte) : Option Bool := if b = 0 then some false else if b = 1 then some true else none

/-- A fault-kind set, or none if a bit 5 to 7 is set (R175, R188). -/
def kindsOf (b : Byte) : Option (PerKind Bool) :=
  if b.extractLsb' 5 3 = 0 then some (kindsOfByte b) else none

/-- The limit class of its code (TABLE 70). -/
def LimitClass.ofCode (b : Byte) : Option LimitClass :=
  match b.toNat with
  | 0 => some .low
  | 1 => some .mid
  | 2 => some .high
  | _ => none

/-- The open threshold of its code (TABLE 70). -/
def OpenThreshold.ofCode (b : Byte) : Option OpenThreshold :=
  match b.toNat with
  | 0 => some .ma2
  | 1 => some .ma10
  | 2 => some .ma40
  | _ => none

/-- The open qualification of its code (TABLE 70). -/
def OpenQualification.ofCode (b : Byte) : Option OpenQualification :=
  match b.toNat with
  | 0 => some .us500
  | 1 => some .ms2
  | 2 => some .ms6
  | 3 => some .ms20
  | _ => none

/-- The filter action of its code (R189). -/
def FilterAction.ofCode (b : Byte) : Option FilterAction :=
  match b.toNat with
  | 0 => some .report
  | 1 => some .count
  | 2 => some .drop
  | _ => none

/-- A configuration record read from its eight bytes, or none if a field lies outside TABLE 17 (R185). -/
def ConfigRecord.ofBytes (r : RecordBytes) : Option ConfigRecord :=
  match LimitClass.ofCode r.limitClass, OpenThreshold.ofCode r.openThreshold, OpenQualification.ofCode r.openQualification with
  | some cls, some thr, some qual =>
    if r.inrush.toNat ≤ 25 ∧ (1 ≤ r.retryDelay.toNat ∧ r.retryDelay.toNat ≤ 50) ∧ r.retryBudget.toNat ≤ 15
        ∧ r.enables.extractLsb' 4 4 = 0 ∧ (1 ≤ r.holdTime.toNat ∧ r.holdTime.toNat ≤ 100) then
      some
        { limitClass := cls
          inrush := r.inrush.toNat
          retryDelay := r.retryDelay.toNat
          retryBudget := r.retryBudget.toNat
          openThreshold := thr
          openQualification := qual
          openOnEnable := r.enables.getLsbD 0
          openOffEnable := r.enables.getLsbD 1
          shortSupplyEnable := r.enables.getLsbD 2
          failAction := if r.enables.getLsbD 3 then .hold else .off
          holdTime := r.holdTime.toNat }
    else none
  | _, _, _ => none

/-- The kind set of a filter entry holds no mandatory kind (R189): bits 0, 8, 11, 12, 13 and 15 are clear. -/
def filterableOnly (kinds : Half) : Bool := decide (kinds &&& 0xB901 = 0)

/-! ## Commands as they are executed -/

/-- A command whose KIND, LEN and field values have passed (R177). -/
inductive HostCommand where
  | ping
  | readStatus
  | setOutputs (channels states : ChanSet)
  /-- `delay` is none for an AT_MARK trigger. -/
  | queueAction (tag : Byte) (delay : Option PartTime) (channels states : ChanSet) (revert : Option PartTime)
  | cancelAction (tag : Byte)
  | listActions (start : Nat)
  | configureChannel (channels : ChanSet) (record : ConfigRecord)
  | readChannel (c : Chan)
  | clearFaults (channels : ChanSet) (kinds : PerKind Bool) (release : Bool)
  | setFilter (index : Fin 8) (entry : FilterEntry)
  | readFilter (index : Fin 8) (clear : Bool)
  | readSnapshot
  | setMode (timeout : Byte) (auto : Bool)
  | softReset
  deriving DecidableEq, Repr

/-- The longest delay and revert delay in barrier cycles (00_scope.md Section 1.5.3, R94). -/
def longestDelay : Nat := 200000

/-- SET_OUTPUTS' fields (R181). -/
def setOutputsFields (channels states : Half) : Option HostCommand := do
  let m ← maskOf channels
  let st ← maskOf states
  some (.setOutputs m st)

/-- QUEUE_ACTION's trigger with its delay, or none if the code or the AT_TIME delay is out of range (R182). -/
def triggerOf (trigger : Byte) (delay : BitVec 32) : Option (Option PartTime) :=
  if trigger = 0 then
    if 1 ≤ delay.toNat ∧ delay.toNat ≤ longestDelay then some (some delay) else none
  else if trigger = 1 then some none
  else none

/-- QUEUE_ACTION's revert delay: 0 for none (R182). -/
def revertOf (revert : BitVec 32) : Option (Option PartTime) :=
  if revert = 0 then some none else if revert.toNat ≤ longestDelay then some (some revert) else none

/-- QUEUE_ACTION's fields (R94, R182). -/
def queueActionFields (tag trigger : Byte) (delay : BitVec 32) (channels states : Half) (revert : BitVec 32) :
    Option HostCommand := do
  let d ← triggerOf trigger delay
  let m ← maskOf channels
  let st ← maskOf states
  let r ← revertOf revert
  if tag = 0 ∨ m = 0 then none else some (.queueAction tag d m (st &&& m) r)

/-- CONFIGURE_CHANNEL's fields (R185). -/
def configureFields (channels : Half) (record : RecordBytes) : Option HostCommand := do
  let m ← maskOf channels
  let r ← ConfigRecord.ofBytes record
  if m = 0 then none else some (.configureChannel m r)

/-- CLEAR_FAULTS' fields (R188). -/
def clearFaultsFields (channels : Half) (kinds release : Byte) : Option HostCommand := do
  let m ← maskOf channels
  let k ← kindsOf kinds
  let r ← flagOf release
  if m = 0 then none else some (.clearFaults m k r)

/-- The index of a filter entry, 0 to 7 (R189, R190). -/
def filterIndexOf (b : Byte) : Option (Fin 8) := if h : b.toNat < 8 then some ⟨b.toNat, h⟩ else none

/-- SET_FILTER's fields (R131, R189): the entry it writes has a match count of 0. -/
def setFilterFields (index enabled : Byte) (kinds channels : Half) (action : Byte) : Option HostCommand := do
  let i ← filterIndexOf index
  let en ← flagOf enabled
  let a ← FilterAction.ofCode action
  if filterableOnly kinds ∧ channels.extractLsb' 12 3 = 0 then
    some (.setFilter i ⟨en, kinds, channels.extractLsb' 0 12, channels.getLsbD 15, a, 0⟩)
  else none

/-- READ_FILTER's fields (R190). -/
def readFilterFields (index clear : Byte) : Option HostCommand := do
  let i ← filterIndexOf index
  let c ← flagOf clear
  some (.readFilter i c)

/-- SET_MODE's fields (R192). -/
def setModeFields (timeout auto : Byte) : Option HostCommand := do
  let a ← flagOf auto
  some (.setMode timeout a)

/-- The command whose KIND and payload these are, or none if a field value is out of range (R177 step 3); the payload's length is
right (TABLE 69). -/
def fieldsOf (k : CommandKind) (payload : List Byte) : Option HostCommand :=
  match k, payload with
  | .ping, [] => some .ping
  | .readStatus, [] => some .readStatus
  | .readSnapshot, [] => some .readSnapshot
  | .softReset, [] => some .softReset
  | .setOutputs, [m1, m0, s1, s0] => setOutputsFields (join2 m1 m0) (join2 s1 s0)
  | .queueAction, [tag, trig, d3, d2, d1, d0, m1, m0, s1, s0, r3, r2, r1, r0] =>
    queueActionFields tag trig (join4 d3 d2 d1 d0) (join2 m1 m0) (join2 s1 s0) (join4 r3 r2 r1 r0)
  | .cancelAction, [tag] => if tag = 0 then none else some (.cancelAction tag)
  | .listActions, [start] => if start.toNat ≤ 15 then some (.listActions start.toNat) else none
  | .configureChannel, [m1, m0, b0, b1, b2, b3, b4, b5, b6, b7] =>
    configureFields (join2 m1 m0) ⟨b0, b1, b2, b3, b4, b5, b6, b7⟩
  | .readChannel, [c] => if h : c.toNat < 12 then some (.readChannel ⟨c.toNat, h⟩) else none
  | .clearFaults, [m1, m0, kinds, release] => clearFaultsFields (join2 m1 m0) kinds release
  | .setFilter, [i, en, k1, k0, c1, c0, a] => setFilterFields i en (join2 k1 k0) (join2 c1 c0) a
  | .readFilter, [i, c] => readFilterFields i c
  | .setMode, [t, a] => setModeFields t a
  | _, _ => none

/-- Steps 1 to 3 of the checks of R177: the command, or the status of the first step that fails. -/
def validate (f : Frame) : Except Status HostCommand :=
  match CommandKind.ofCode f.kind with
  | none => .error .badKind
  | some k =>
    if f.payload.length ≠ k.length then .error .badLength
    else match fieldsOf k f.payload with
      | none => .error .badValue
      | some c => .ok c

/-! ## The command frames of the table's rows (TABLE 69) -/

/-- The command frame of a kind with its payload. -/
def commandFrame (k : CommandKind) (seq : Byte) (payload : List Byte) : Frame := ⟨seq, k.code, payload⟩

/-- The eight bytes of a configuration record in order (TABLE 70). -/
def recordByteList (r : RecordBytes) : List Byte :=
  [r.limitClass, r.inrush, r.retryDelay, r.retryBudget, r.openThreshold, r.openQualification, r.enables, r.holdTime]

/-- The SET_OUTPUTS frame (TABLE 69). -/
def setOutputsFrame (seq : Byte) (channels states : Half) : Frame :=
  commandFrame .setOutputs seq (bytes2 channels ++ bytes2 states)

/-- The QUEUE_ACTION frame (TABLE 69). -/
def queueActionFrame (seq tag trigger : Byte) (delay : BitVec 32) (channels states : Half) (revert : BitVec 32) : Frame :=
  commandFrame .queueAction seq
    ([tag, trigger] ++ bytes4 delay ++ bytes2 channels ++ bytes2 states ++ bytes4 revert)

/-- The CONFIGURE_CHANNEL frame (TABLE 69). -/
def configureChannelFrame (seq : Byte) (channels : Half) (record : RecordBytes) : Frame :=
  commandFrame .configureChannel seq (bytes2 channels ++ recordByteList record)

/-- The CLEAR_FAULTS frame (TABLE 69). -/
def clearFaultsFrame (seq : Byte) (channels : Half) (kinds release : Byte) : Frame :=
  commandFrame .clearFaults seq (bytes2 channels ++ [kinds, release])

/-- The SET_FILTER frame (TABLE 69). -/
def setFilterFrame (seq index enabled : Byte) (kinds channels : Half) (action : Byte) : Frame :=
  commandFrame .setFilter seq ([index, enabled] ++ bytes2 kinds ++ bytes2 channels ++ [action])

end Sys2Proof.Machine
end

