-- ==== Sys2Proof/Machine/Supervisor.lean ====
section
/-! DEFINITION. The Channel Supervisor (Chapter 1): the happenings that reach it, each as one function on its state. Currents
are in microamperes and voltages in millivolts. -/

namespace Sys2Proof.Machine

open Sys2Proof

/-! ## Limits and thresholds -/

/-- The class limit in microamperes (Section 1.2). -/
def LimitClass.limit : LimitClass → Nat
  | .low => 500000
  | .mid => 1000000
  | .high => 2000000

/-- The open threshold in microamperes (TABLE 17). -/
def OpenThreshold.current : OpenThreshold → Nat
  | .ma2 => 2000
  | .ma10 => 10000
  | .ma40 => 40000

/-- The switch is closed (R1). -/
def Protection.closed : Protection → Bool
  | .starting | .on | .limiting => true
  | .off | .cooldown | .locked => false

/-- The current limit that a protection state puts in force under a record, or none while the switch is open: the inrush limit,
twice the class limit, in STARTING, the class limit in ON and LIMITING (R2, TABLE 12). -/
def limitInForce (p : Protection) (r : ConfigRecord) : Option Nat :=
  match p with
  | .starting => some (2 * r.limitClass.limit)
  | .on | .limiting => some r.limitClass.limit
  | .off | .cooldown | .locked => none

/-- The current has reached the limit (R2). -/
def reaches (current limit : Nat) : Bool := decide (limit ≤ current)

/-- The current is below 90 % of the limit (R2). -/
def below90 (current limit : Nat) : Bool := decide (10 * current < 9 * limit)

/-- The current is below the open threshold (R18). -/
def belowThreshold (current : Nat) (t : OpenThreshold) : Bool := decide (current < t.current)

/-- The current is above 125 % of the open threshold (R19). -/
def above125 (current : Nat) (t : OpenThreshold) : Bool := decide (5 * t.current < 4 * current)

/-- The output voltage lies in the OPEN_OFF window, 4.5 V to 11 V, both included (R22). -/
def inOpenOffWindow (voltage : Int) : Bool := decide (4500 ≤ voltage ∧ voltage ≤ 11000)

/-- The output voltage lies above 11 V (R23). -/
def aboveSupplyLevel (voltage : Int) : Bool := decide (11000 < voltage)

/-! ## The OPEN_ON detector -/

/-- The OPEN_ON qualification timer of a channel that stands in ON with its condition absent, from the current of the moment:
started from zero with the record's open qualification if the enable is set and the current is below the threshold, stopped
otherwise (R18). -/
def openOnTimerFrom (r : ConfigRecord) (current : Nat) : Option OpenQualification :=
  if r.openOnEnable && belowThreshold current r.openThreshold then some r.openQualification else none

/-! ## The off-state detectors -/

/-- The switch is open, the off-blanking timer has elapsed and the band is not DROPOUT: the conditions that the two off-state
detectors share (R22, R23, R24). -/
def offDetectorsRun (s : Supervisor) (band : Band) : Bool :=
  !s.protection.closed && decide (s.blanking = .elapsed) && decide (band ≠ .dropout)

/-- A running off-state detector whose voltage test now gives `test`: with the condition absent the qualification timer runs
while the test holds, with it present the clearing timer runs while the test fails (R22, R23). -/
def OffDetector.sense (d : OffDetector) (test : Bool) : OffDetector :=
  if d.present then { d with qualifying := false, clearing := !test }
  else { d with qualifying := test, clearing := false }

/-- Both timers stop and lose their counts; the condition stays (R20, R24). -/
def OffDetector.halt (d : OffDetector) : OffDetector := { d with qualifying := false, clearing := false }

/-- Both off-state detectors see the output voltage `voltage`: each that runs takes its voltage test (R22, R23). -/
def Supervisor.senseVoltage (s : Supervisor) (band : Band) (voltage : Int) : Supervisor :=
  if offDetectorsRun s band then
    { s with
      openOff := if s.record.openOffEnable then s.openOff.sense (inOpenOffWindow voltage) else s.openOff
      shortSupply := if s.record.shortSupplyEnable then s.shortSupply.sense (aboveSupplyLevel voltage) else s.shortSupply }
  else s

/-! ## Opening and closing the switch -/

/-- An opening of the switch into the open state `p` (R1, R10, R13): regulation ends (R2), the inrush, limit and settle timers
stop (R5, R7, R10), ON is left for OPEN_ON (R18, R19), and the off-blanking timer starts (R20). -/
def Supervisor.openSwitch (s : Supervisor) (p : Protection) : Supervisor :=
  { s with
    protection := p
    inRegulation := false
    inrush := none
    limitTimer := false
    settleTimer := false
    openOnTimer := none
    openOn := false
    blanking := .running }

/-- Entry into ON below the class limit (R5, R7, R8): the inrush and limit timers are stopped, the settle timer starts from
zero, and the OPEN_ON timer starts if the current is below the threshold (R18). -/
def Supervisor.enterOn (s : Supervisor) (current : Nat) : Supervisor :=
  { s with
    protection := .on
    inRegulation := false
    inrush := none
    limitTimer := false
    settleTimer := true
    openOnTimer := openOnTimerFrom s.record current
    openOn := false }

/-- Entry into LIMITING (R7): the channel is in regulation at the class limit, the settle timer stops, the limit timer starts
from zero, and ON is left for OPEN_ON (R18, R19). -/
def Supervisor.enterLimiting (s : Supervisor) : Supervisor :=
  { s with
    protection := .limiting
    inRegulation := true
    inrush := none
    limitTimer := true
    settleTimer := false
    openOnTimer := none
    openOn := false }

/-- A closing of the switch (R4, R12): the off-blanking timer stops (R20), the off-state conditions become absent and their
timers stop (R22, R23), and the channel enters STARTING with the inrush timer at the allowance, or ON if the allowance is 0.
The switch was open until now, so the load current starts from 0 (DEDUCED, unsafe; log entry 7). -/
def Supervisor.closeSwitch (s : Supervisor) : Supervisor :=
  let closed : Supervisor :=
    { s with
      blanking := .stopped
      cooldown := .stopped
      openOff := OffDetector.reset
      shortSupply := OffDetector.reset }
  if s.record.inrush = 0 then closed.enterOn 0
  else { closed with protection := .starting, inrush := some s.record.inrush }

/-! ## Trips -/

/-- The occurrence counter of kind `k` is incremented modulo 16 (R16). -/
def countOccurrence (p : PerKind Occurrences) (k : FaultKind) : PerKind Occurrences :=
  match k with
  | .overcurrent => { p with overcurrent := p.overcurrent + 1 }
  | .overtemp => { p with overtemp := p.overtemp + 1 }
  | .openOn => { p with openOn := p.openOn + 1 }
  | .openOff => { p with openOff := p.openOff + 1 }
  | .shortSupply => { p with shortSupply := p.shortSupply + 1 }

/-- The fault kind of a trip's cause (R10). -/
def TripCause.kind : TripCause → FaultKind
  | .overcurrent => .overcurrent
  | .overtemp => .overtemp

/-- Where a trip goes on with the present retry count (R10): COOLDOWN below the budget, LOCKED otherwise. -/
def tripTarget (s : Supervisor) : Protection :=
  if s.retry < s.record.retryBudget then .cooldown else .locked

/-- What a trip does besides opening the switch (R10, R12): the cause's occurrence counter advances, and with the retry count
below the budget the count is incremented and the cooldown timer starts with the retry delay as its length. -/
def Supervisor.countTrip (s : Supervisor) (cause : TripCause) : Supervisor :=
  { s with
    counters := countOccurrence s.counters cause.kind
    retry := if s.retry < s.record.retryBudget then s.retry + 1 else s.retry
    cooldown := if s.retry < s.record.retryBudget then .running s.record.retryDelay else .stopped }

/-- A trip of a channel whose switch is closed (R10). -/
def Supervisor.trip (s : Supervisor) (cause : TripCause) : Supervisor :=
  (s.openSwitch (tripTarget s)).countTrip cause

/-- The trip at a start of a HOT channel (R4): the switch was not closed, so the off-blanking time is not restarted and the
off-state detectors go on as they were. -/
def Supervisor.tripAtStart (s : Supervisor) : Supervisor :=
  ({ s with protection := tripTarget s } : Supervisor).countTrip .overtemp

/-- A start of a channel in OFF (R4). -/
def Supervisor.start (s : Supervisor) : Supervisor :=
  if s.hot then s.tripAtStart else s.closeSwitch

/-! ## The effective demand and the release -/

/-- The effective demand becomes OFF (R13). -/
def Supervisor.demandOff (s : Supervisor) : Supervisor :=
  match s.protection with
  | .starting | .on | .limiting => { s.openSwitch .off with retry := 0 }
  | .cooldown => { s with protection := .off, retry := 0, cooldown := .stopped }
  | .off | .locked => s

/-- The effective demand becomes ON (R4): a channel in OFF makes a start; a LOCKED channel holds the demand (R14). -/
def Supervisor.demandOn (s : Supervisor) : Supervisor :=
  match s.protection with
  | .off => s.start
  | .starting | .on | .limiting | .cooldown | .locked => s

/-- A release with the effective demand `effective` (R15): a LOCKED channel enters OFF with a retry count of 0 and makes a start
if its effective demand is ON; in any other state nothing changes. -/
def Supervisor.release (s : Supervisor) (effective : Bool) : Supervisor :=
  match s.protection with
  | .locked =>
    let freed : Supervisor := { s with protection := .off, retry := 0 }
    if effective then freed.start else freed
  | .off | .starting | .on | .limiting | .cooldown => s

/-! ## Applying a configuration record (R37 to R39) -/

/-- Regulation after the limit in force has changed from `old` to `new` with the current at `current` (R2): in regulation it
goes on at or above 90 % of the new limit; out of regulation it begins if the limit was lowered to or below the current. -/
def regulationAfter (inRegulation : Bool) (old new current : Nat) : Bool :=
  if inRegulation then !below90 current new else decide (new < old) && reaches current new

/-- The limit class of a new record acts at once (R2, R7, R38). `old` is the record that has been replaced. A record that leaves the
limit as it was changes nothing here (DEDUCED, safe; log entry 23). -/
def Supervisor.relimit (s : Supervisor) (old : ConfigRecord) (current : Nat) : Supervisor :=
  match s.protection, limitInForce s.protection old, limitInForce s.protection s.record with
  | .starting, some l, some l' =>
    if l' = l then s
    else
      let inReg := regulationAfter s.inRegulation l l' current
      { s with inRegulation := inReg, limitTimer := inReg }
  | .on, some l, some l' =>
    if l' ≠ l && regulationAfter false l l' current then s.enterLimiting else s
  | .limiting, some l, some l' =>
    if l' ≠ l && !regulationAfter true l l' current then s.enterOn current else s
  | _, _, _ => s

/-- The OPEN_ON settings of a new record (R25, R39). A channel in ON whose enable stays set keeps a present condition, and has its
timer started from zero again if the threshold or the qualification time has changed. -/
def Supervisor.resetOpenOn (s : Supervisor) (old : ConfigRecord) (current : Nat) : Supervisor :=
  if old.openOnEnable && !s.record.openOnEnable then { s with openOnTimer := none, openOn := false }
  else if s.record.openOnEnable && s.protection = .on && !s.openOn
      && (!old.openOnEnable || decide (old.openThreshold ≠ s.record.openThreshold)
        || decide (old.openQualification ≠ s.record.openQualification)) then
    { s with openOnTimer := openOnTimerFrom s.record current }
  else s

/-- An off-state detector whose enable has gone from `was` to `is` (R25): cleared, its condition becomes absent and its timers
stop; set, it runs from that moment if `runs`, with the voltage test `test`; left as it was, nothing changes. R24 says that a condition
present before DROPOUT stays present through it; a record applied in DROPOUT that clears the enable makes the condition absent at once
all the same (DESIGN CHOICE, unsafe; log entry 28). -/
def OffDetector.reenable (d : OffDetector) (was is runs test : Bool) : OffDetector :=
  if was && !is then OffDetector.reset
  else if !was && is && runs then d.sense test
  else d

/-- A configuration record is applied to the channel (R37 to R39), with the current and the voltage of the moment: the record is
replaced whole, the retry count becomes 0, and the fields act as TABLE 19 gives. No protection state changes but by the change
of the limit in force. -/
def Supervisor.applyRecord (s : Supervisor) (r : ConfigRecord) (band : Band) (current : Nat) (voltage : Int) : Supervisor :=
  let s1 : Supervisor := { s with record := r, retry := 0 }
  let s2 := (s1.resetOpenOn s.record current).relimit s.record current
  let runs := offDetectorsRun s2 band
  { s2 with
    openOff := s2.openOff.reenable s.record.openOffEnable r.openOffEnable runs (inOpenOffWindow voltage)
    shortSupply := s2.shortSupply.reenable s.record.shortSupplyEnable r.shortSupplyEnable runs (aboveSupplyLevel voltage) }

/-! ## The happenings of the channel's own sensors and timers (TABLE 11) -/

/-- The load current reaches the limit in force (R2, R6, R7). -/
def Supervisor.regulationBegins (s : Supervisor) (current : Nat) : Supervisor :=
  match limitInForce s.protection s.record with
  | none => s
  | some l =>
    if !s.inRegulation && reaches current l then
      match s.protection with
      | .starting => { s with inRegulation := true, limitTimer := true }
      | _ => s.enterLimiting
    else s

/-- The current falls below 90 % of the limit in force (R2, R6, R8). -/
def Supervisor.regulationEnds (s : Supervisor) (current : Nat) : Supervisor :=
  match limitInForce s.protection s.record with
  | none => s
  | some l =>
    if s.inRegulation && below90 current l then
      match s.protection with
      | .limiting => s.enterOn current
      | _ => { s with inRegulation := false, limitTimer := false }
    else s

/-- The inrush timer runs out (R5). -/
def Supervisor.inrushExpiry (s : Supervisor) (current : Nat) : Supervisor :=
  if s.protection = .starting && s.inrush.isSome then
    if reaches current s.record.limitClass.limit then s.enterLimiting else s.enterOn current
  else s

/-- The limit timer reaches 2 ms (R6, R8). -/
def Supervisor.limitExpiry (s : Supervisor) : Supervisor :=
  if s.limitTimer && s.protection.closed then s.trip .overcurrent else s

/-- The settle timer reaches 100 ms (R7). -/
def Supervisor.settleExpiry (s : Supervisor) : Supervisor :=
  if s.settleTimer then { s with retry := 0, settleTimer := false } else s

/-- The junction temperature has risen to `junction` (R3, R9): a COOL flag becomes HOT at 160 °C, and keeps its value below that. -/
def Supervisor.becomesHot (s : Supervisor) (junction : Int) : Supervisor :=
  if !s.hot && flagAt s.hot junction then
    let flagged : Supervisor := { s with hot := true }
    if s.protection.closed then flagged.trip .overtemp else flagged
  else s

/-- The attempt out of COOLDOWN (R12). -/
def Supervisor.attempt (s : Supervisor) : Supervisor := s.closeSwitch

/-- The junction temperature has fallen to `junction` (R3, R12): a HOT flag becomes COOL below 145 °C, and keeps its value from that
temperature on. -/
def Supervisor.becomesCool (s : Supervisor) (junction : Int) : Supervisor :=
  if s.hot && !flagAt s.hot junction then
    let flagged : Supervisor := { s with hot := false }
    if s.protection = .cooldown && s.cooldown = .elapsed then flagged.attempt else flagged
  else s

/-- The cooldown timer runs (R12). -/
def Cooldown.isRunning : Cooldown → Bool
  | .running _ => true
  | .stopped | .elapsed => false

/-- The cooldown timer runs out (R12). -/
def Supervisor.cooldownExpiry (s : Supervisor) : Supervisor :=
  if s.protection = .cooldown && s.cooldown.isRunning then
    if s.hot then { s with cooldown := .elapsed } else s.attempt
  else s

/-- The off-blanking timer elapses (R20): the off-state detectors run from this moment under their other conditions. -/
def Supervisor.blankingExpiry (s : Supervisor) (band : Band) (voltage : Int) : Supervisor :=
  if s.blanking = .running then ({ s with blanking := .elapsed } : Supervisor).senseVoltage band voltage else s

/-- The load current crosses the open threshold (R18). -/
def Supervisor.thresholdCrossing (s : Supervisor) (current : Nat) : Supervisor :=
  if s.protection = .on && s.record.openOnEnable && !s.openOn then
    if belowThreshold current s.record.openThreshold then
      { s with openOnTimer := some (s.openOnTimer.getD s.record.openQualification) }
    else { s with openOnTimer := none }
  else s

/-- The OPEN_ON qualification timer reaches its length (R18). -/
def Supervisor.openOnQualifies (s : Supervisor) : Supervisor :=
  if s.openOnTimer.isSome then
    { s with openOnTimer := none, openOn := true, counters := countOccurrence s.counters .openOn }
  else s

/-- The current rises above 125 % of the open threshold (R19). -/
def Supervisor.openOnRecovers (s : Supervisor) (current : Nat) : Supervisor :=
  if s.openOn && above125 current s.record.openThreshold then { s with openOn := false } else s

/-- The OPEN_OFF qualification timer reaches 6 ms (R22). -/
def Supervisor.openOffQualifies (s : Supervisor) : Supervisor :=
  if s.openOff.qualifying then
    { s with openOff := ⟨false, false, true⟩, counters := countOccurrence s.counters .openOff }
  else s

/-- The OPEN_OFF clearing timer reaches 6 ms (R22). -/
def Supervisor.openOffClears (s : Supervisor) : Supervisor :=
  if s.openOff.clearing then { s with openOff := ⟨false, false, false⟩ } else s

/-- The SHORT_SUPPLY qualification timer reaches 6 ms (R23). -/
def Supervisor.shortSupplyQualifies (s : Supervisor) : Supervisor :=
  if s.shortSupply.qualifying then
    { s with shortSupply := ⟨false, false, true⟩, counters := countOccurrence s.counters .shortSupply }
  else s

/-- The SHORT_SUPPLY clearing timer reaches 6 ms (R23). -/
def Supervisor.shortSupplyClears (s : Supervisor) : Supervisor :=
  if s.shortSupply.clearing then { s with shortSupply := ⟨false, false, false⟩ } else s

/-- The supply band enters DROPOUT (R24): the timers of the off-state detectors stop and their conditions are held. -/
def Supervisor.suspendOffDetectors (s : Supervisor) : Supervisor :=
  { s with openOff := s.openOff.halt, shortSupply := s.shortSupply.halt }

/-- The test current of 50 µA is sourced onto the output (R21). -/
def Supervisor.testCurrent (s : Supervisor) : Bool := !s.protection.closed && s.record.openOffEnable

end Sys2Proof.Machine
end

