-- ==== Sys2Proof/Machine/Field.lean ====
section
/-! DEFINITION. The field side as one unit: the Barrier Link Responder (Chapters 3 and 4) and the Supply Monitor (R44 to R47)
over the twelve Channel Supervisors. Every function here acts on a running field die. -/

namespace Sys2Proof.Machine

open Sys2Proof

/-! ## Effective demand (R50, R51, R52) -/

/-- The effective demand of channel `c` formed from the field mode, the received values, the band and the channel's hold
(TABLE 26): OFF in WAITING and in DROPOUT; in ACTIVE the received demand unless the stop flag is set; in SAFE ON while the hold
runs. -/
def formedDemand (f : FieldSide) (c : Chan) : Bool :=
  match f.mode with
  | .waiting => false
  | .active => ChanSet.has f.received c && !f.stop && decide (f.band ≠ .dropout)
  | .safe => (f.channels.get c).hold.isSome && decide (f.band ≠ .dropout)

/-- A channel's effective demand takes the value `v`; a change is handed to the supervisor whole, and a value formed again
without change hands it nothing (R50). -/
def FieldChannel.take (ch : FieldChannel) (v : Bool) : FieldChannel :=
  if ch.effective = v then ch
  else { ch with effective := v, supervisor := if v then ch.supervisor.demandOn else ch.supervisor.demandOff }

/-- The effective demand of every channel is formed anew (R50). -/
def FieldSide.formDemand (f : FieldSide) : FieldSide :=
  { f with channels := f.channels.mapIdx fun c ch => ch.take (formedDemand f c) }

/-- Every hold timer stops without acting (R52). -/
def FieldSide.stopHolds (f : FieldSide) : FieldSide :=
  { f with channels := f.channels.map fun ch => { ch with hold := none } }

/-- A channel at the entry into SAFE (R51): its hold starts if its fail action is HOLD and its effective demand is ON. -/
def FieldChannel.startHold (ch : FieldChannel) : FieldChannel :=
  { ch with
    hold := match ch.supervisor.record.failAction with
      | .hold => if ch.effective then some ch.supervisor.record.holdTime else none
      | .off => none }

/-- The field mode enters SAFE (R48, R51). -/
def FieldSide.enterSafe (f : FieldSide) : FieldSide :=
  ({ f with mode := .safe, channels := f.channels.map FieldChannel.startHold } : FieldSide).formDemand

/-- The hold timer of channel `c` runs out (R51): the effective demand becomes OFF and the timer stops. -/
def FieldSide.holdExpiry (f : FieldSide) (c : Chan) : FieldSide :=
  if (f.channels.get c).hold.isSome then
    ({ f with channels := f.channels.update c fun ch => { ch with hold := none } } : FieldSide).formDemand
  else f

/-! ## Status frames (R64) -/

/-- The condition set of a supervisor (R16, R17). -/
def Supervisor.conditions (s : Supervisor) : PerKind Bool where
  overcurrent := s.inRegulation
  overtemp := s.hot
  openOn := s.openOn
  openOff := s.openOff.present
  shortSupply := s.shortSupply.present

/-- What a channel hands to a status frame (R26, R37, R68). -/
def FieldChannel.status (ch : FieldChannel) : ChannelStatus where
  protection := ch.supervisor.protection
  retry := ch.supervisor.retry
  conditions := ch.supervisor.conditions
  counters := ch.supervisor.counters
  applied := ch.applied
  token := ch.token

/-- The status frame built from the field side as it stands (R64, TABLE 30). -/
def FieldSide.statusFrame (f : FieldSide) : StatusFrame where
  cycle := f.cycle
  boot := f.boot
  cause := f.cause
  mode := f.mode
  band := f.band
  channels := f.channels.map FieldChannel.status

/-! ## Taking a drive frame (R67) -/

/-- Step 0: the cycle number, the consecutive-miss count and the watch timer (R66). -/
def FieldSide.noteFrame (f : FieldSide) (d : DriveFrame) : FieldSide :=
  { f with cycle := d.cycle, misses := 0, watch := some 60 }

/-- Step 1: the control boot flag makes a field reset of cause CONTROL unless a field reset is already outstanding (R67, R69,
R78). -/
def FieldSide.takeControlBoot (f : FieldSide) (d : DriveFrame) (sense : FieldSense) : FieldSide :=
  if d.controlBoot && !f.boot then FieldSide.reset .control d.cycle sense else f

/-- Step 2: the configuration slot is applied if its generation is new to the channel, and ignored otherwise (R37). -/
def FieldSide.takeSlot (f : FieldSide) (d : DriveFrame) (sense : FieldSense) : FieldSide :=
  match d.slot with
  | none => f
  | some slot =>
    if (f.channels.get slot.channel).applied = some slot.generation then f
    else
      let load := sense.loads.get slot.channel
      { f with
        channels := f.channels.update slot.channel fun ch =>
          { ch with
            applied := some slot.generation
            supervisor := ch.supervisor.applyRecord slot.record f.band load.current load.voltage } }

/-- Step 3: the field-boot-seen flag clears the field boot flag (R69). -/
def FieldSide.takeBootSeen (f : FieldSide) (d : DriveFrame) : FieldSide :=
  if d.fieldBootSeen && f.boot then { f with boot := false } else f

/-- The field mode after a good drive frame (R48, TABLE 25): the resume flag moves WAITING and SAFE to ACTIVE unless the field
boot flag is set. -/
def modeAfterFrame (f : FieldSide) (d : DriveFrame) : FieldMode :=
  if d.resume && !f.boot then .active else f.mode

/-- The holds that a good drive frame ends: all of them when it makes or finds the mode ACTIVE, and when its stop flag is set
(R52). -/
def endsHolds (f : FieldSide) (d : DriveFrame) : Bool :=
  decide (modeAfterFrame f d = .active) || d.stop

/-- Step 4: the received values, the resume flag and the effective demand (R48 to R52). -/
def FieldSide.takeDemand (f : FieldSide) (d : DriveFrame) : FieldSide :=
  let f1 : FieldSide := { f with received := d.demand, stop := d.stop, mode := modeAfterFrame f d }
  (if endsHolds f d then f1.stopHolds else f1).formDemand

/-- A channel takes the release token of a good drive frame (R68): a token that differs is recorded and makes a release. -/
def FieldChannel.takeToken (ch : FieldChannel) (t : Token) : FieldChannel :=
  if ch.token = t then ch
  else { ch with token := t, supervisor := ch.supervisor.release ch.effective }

/-- Step 5: the release tokens (R68). -/
def FieldSide.takeTokens (f : FieldSide) (d : DriveFrame) : FieldSide :=
  { f with channels := f.channels.mapIdx fun c ch => ch.takeToken (d.tokens.get c) }

/-- A good drive frame is taken (R66, R67). -/
def FieldSide.takeFrame (f : FieldSide) (d : DriveFrame) (sense : FieldSense) : FieldSide :=
  (((((f.noteFrame d).takeControlBoot d sense).takeSlot d sense).takeBootSeen d).takeDemand d).takeTokens d

/-! ## The watch timer (R66) -/

/-- The watch timer runs out: a miss is counted, the cycle number advances and the timer starts again with 50 µs; in ACTIVE the
fourth consecutive miss enters SAFE (R48, R66). -/
def FieldSide.countMiss (f : FieldSide) : FieldSide :=
  let f1 : FieldSide :=
    { f with misses := min 255 (f.misses + 1), cycle := f.cycle + 1, watch := some 50 }
  if f.mode = .active ∧ 4 ≤ f1.misses then f1.enterSafe else f1

/-! ## The Supply Monitor (R44 to R47) -/

/-- VF moves to `vf` (R45): the candidate band is formed, and the filter timer runs from zero while the candidate differs from
the band in force. -/
def FieldSide.senseSupply (f : FieldSide) (vf : Nat) : FieldSide :=
  { f with
    candidate := candidateBand f.band vf
    filterTimer := decide (candidateBand f.band vf ≠ f.band) }

/-- The band in force becomes `b` (R44, R47): at entry to DROPOUT every hold ends (R52) and the off-state detectors are
suspended (R24); the effective demand is formed again (R50); at the end of a DROPOUT the off-state detectors run again (R24). -/
def FieldSide.changeBand (f : FieldSide) (b : Band) (voltages : PerChan Int) : FieldSide :=
  let f1 : FieldSide := { f with band := b, filterTimer := false }
  if b = .dropout then
    let f2 := f1.stopHolds
    ({ f2 with
      channels := f2.channels.map fun ch => { ch with supervisor := ch.supervisor.suspendOffDetectors } } :
        FieldSide).formDemand
  else
    let f2 := f1.formDemand
    if f.band = .dropout then
      { f2 with
        channels := f2.channels.mapIdx fun c ch =>
          { ch with supervisor := ch.supervisor.senseVoltage b (voltages.get c) } }
    else f2

/-- The supply filter timer reaches 1 ms (R45). -/
def FieldSide.filterExpiry (f : FieldSide) (voltages : PerChan Int) : FieldSide :=
  if f.filterTimer && decide (f.candidate ≠ f.band) then f.changeBand f.candidate voltages
  else { f with filterTimer := false }

/-! ## One supervisor of the field side -/

/-- The supervisor of channel `c` takes a happening of its own. -/
def FieldSide.supervise (f : FieldSide) (c : Chan) (g : Supervisor → Supervisor) : FieldSide :=
  { f with channels := f.channels.update c fun ch => { ch with supervisor := g ch.supervisor } }

end Sys2Proof.Machine
end

