-- ==== Sys2Proof/Machine/Reports.lean ====
section
/-! DEFINITION. The Report Unit (Chapter 7): stamping and routing an event, the filter table, the report queue, transmission and
acknowledgement, each as a function on the Report Unit's own state. -/

namespace Sys2Proof.Machine

open Sys2Proof

/-! ## Kinds of events -/

/-- The code of an event's kind (TABLE 68). -/
def Event.code : Event → Nat
  | .start .. => 0
  | .faultSet .. => 1
  | .faultCleared .. => 2
  | .retry .. => 3
  | .locked .. => 4
  | .unlocked .. => 5
  | .configApplied .. => 6
  | .actionApplied .. => 7
  | .queueFlushed .. => 8
  | .supply .. => 9
  | .barrier .. => 10
  | .fieldRestart .. => 11
  | .hostSilent .. => 12
  | .stop .. => 13
  | .rxError .. => 14
  | .overflow .. => 15

/-- The kind is one of the six mandatory kinds (R121). -/
def Event.mandatory : Event → Bool
  | .start .. | .queueFlushed .. | .fieldRestart .. | .hostSilent .. | .stop .. | .overflow .. => true
  | .faultSet .. | .faultCleared .. | .retry .. | .locked .. | .unlocked .. | .configApplied .. | .actionApplied ..
  | .supply .. | .barrier .. | .rxError .. => false

/-- The channel an event carries, or none (TABLE 43). -/
def Event.channel : Event → Option Chan
  | .faultSet c _ | .faultCleared c _ | .retry c _ _ | .locked c _ | .unlocked c | .configApplied c _ => some c
  | .start .. | .actionApplied .. | .queueFlushed .. | .supply .. | .barrier .. | .fieldRestart .. | .hostSilent ..
  | .stop .. | .rxError .. | .overflow .. => none

/-! ## The filter table -/

/-- The entry matches the event (R128). -/
def FilterEntry.accepts (f : FilterEntry) (e : Event) : Bool :=
  f.enabled && f.kinds.getLsbD e.code &&
    match e.channel with
    | some c => ChanSet.has f.channels c
    | none => f.noChannel

/-- The index of the first entry that matches the event, or none (R129). -/
def firstMatch (t : Table 8 FilterEntry) (e : Event) : Option (Fin 8) :=
  (List.finRange 8).find? fun i => (t.get i).accepts e

/-- The match count incremented, stopping at 65,535 (R130). -/
def FilterEntry.counted (f : FilterEntry) : FilterEntry := { f with count := min 65535 (f.count + 1) }

/-! ## The report queue -/

/-- The most records the report queue holds (R134). -/
def reportCapacity : Nat := 32

/-- The record is in SENT. -/
def ReportRecord.isSent (r : ReportRecord) : Bool := decide (r.delivery = .sent)

/-- The record is an OVERFLOW record in NEW whose lost count is below 65,535: a loss merges into it (R137). -/
def ReportRecord.mergeable (r : ReportRecord) : Bool :=
  match r.event, r.delivery with
  | .overflow n, .new => decide (n < 65535)
  | _, _ => false

/-- The record with one more loss merged into its count (R137). -/
def ReportRecord.merged (r : ReportRecord) : ReportRecord :=
  match r.event with
  | .overflow n => { r with event := .overflow (n + 1) }
  | _ => r

/-- An event joins the tail of the queue in NEW under the next sequence number (R134, R136). -/
def ReportUnit.append (u : ReportUnit) (now : PartTime) (e : Event) : ReportUnit :=
  { u with queue := u.queue ++ [⟨u.next, now, e, .new⟩], next := u.next + 1 }

/-- The newest record takes a loss (R137): `queue` is never empty here. -/
def mergeLoss : List ReportRecord → List ReportRecord
  | [] => []
  | [r] => [r.merged]
  | r :: rest => r :: mergeLoss rest

/-- An event is lost (R137): it merges into the newest record if that is an OVERFLOW record in NEW, and otherwise the pending loss
grows by one. -/
def ReportUnit.lose (u : ReportUnit) : ReportUnit :=
  match u.queue.getLast? with
  | some r => if r.mergeable then { u with queue := mergeLoss u.queue } else { u with loss := u.loss + 1 }
  | none => { u with loss := u.loss + 1 }

/-- An event that is to be enqueued (R136). -/
def ReportUnit.enqueue (u : ReportUnit) (now : PartTime) (e : Event) : ReportUnit :=
  if u.queue.length < reportCapacity then u.append now e else u.lose

/-- The Report Unit takes an event stamped with part time `now` (R127, R129): a mandatory kind is enqueued untested; for a
filterable kind the first matching filter entry decides, and with no match the event is enqueued. -/
def ReportUnit.take (u : ReportUnit) (now : PartTime) (e : Event) : ReportUnit :=
  if e.mandatory then u.enqueue now e
  else match firstMatch u.filter e with
    | none => u.enqueue now e
    | some i =>
      match (u.filter.get i).action with
      | .report => u.enqueue now e
      | .count => { u with filter := u.filter.update i FilterEntry.counted }
      | .drop => u

/-- The events of one happening are taken in the order in which it raises them (R127). -/
def ReportUnit.takeAll (u : ReportUnit) (now : PartTime) (es : List Event) : ReportUnit :=
  es.foldl (fun u e => u.take now e) u

/-! ## Transmission -/

/-- The number of records in a delivery state. -/
def ReportUnit.countIn (u : ReportUnit) (d : Delivery) : Nat := u.queue.countP fun r => decide (r.delivery = d)

/-- How many records the next REPORT frame carries (R140): the smallest of 4, the records in RESEND or NEW, and 8 minus the
records in SENT. -/
def ReportUnit.offered (u : ReportUnit) : Nat :=
  min 4 (min (u.countIn .resend + u.countIn .new) (8 - u.countIn .sent))

/-- The records the next REPORT frame carries (R140): the oldest in RESEND or NEW. -/
def ReportUnit.offer (u : ReportUnit) : List ReportRecord :=
  (u.queue.filter fun r => !r.isSent).take u.offered

/-- The first `n` records in RESEND or NEW are set to SENT (R141). -/
def markSent : Nat → List ReportRecord → List ReportRecord
  | _, [] => []
  | 0, l => l
  | n + 1, r :: rest =>
    if r.isSent then r :: markSent (n + 1) rest else { r with delivery := .sent } :: markSent n rest

/-- A REPORT frame is formed (R141): its records are set to SENT, and the retransmission timer starts if none was SENT before
(R142). -/
def ReportUnit.formFrame (u : ReportUnit) : ReportUnit :=
  { u with
    queue := markSent u.offered u.queue
    timer := if u.countIn .sent = 0 then some 0 else u.timer }

/-- The length of the retransmission timer in advances of part time: 50 ms (R142). -/
def retransmissionLength : Nat := 1000

/-- A record in SENT goes back to RESEND (R143). -/
def ReportRecord.goBack (r : ReportRecord) : ReportRecord := if r.isSent then { r with delivery := .resend } else r

/-- The retransmission timer runs out (R143): the go-back. -/
def ReportUnit.goBack (u : ReportUnit) : ReportUnit :=
  { u with queue := u.queue.map ReportRecord.goBack, timer := none }

/-- The retransmission timer counts an advance of part time (R142). -/
def ReportUnit.tick (u : ReportUnit) : ReportUnit :=
  { u with timer := u.timer.map fun n => min retransmissionLength (n + 1) }

/-! ## Acknowledgement -/

/-- The head number (R134): the number of the oldest record, or the next sequence number when the queue is empty. -/
def ReportUnit.headNumber (u : ReportUnit) : Half :=
  match u.queue with
  | [] => u.next
  | r :: _ => r.seq

/-- OVERFLOW records are made from the pending loss, at most `n` of them (R138). -/
def makeOverflow (now : PartTime) : Nat → ReportUnit → ReportUnit
  | 0, u => u
  | n + 1, u =>
    if 0 < u.loss ∧ u.queue.length < reportCapacity then
      makeOverflow now n
        ({ u with loss := u.loss - min u.loss 65535 }.append now (.overflow (min u.loss 65535)))
    else u

/-- The `d` oldest records are removed (R144 step 2): the timer is restarted or stopped (R142), and OVERFLOW records are made
from the pending loss (R138). -/
def ReportUnit.remove (u : ReportUnit) (now : PartTime) (d : Nat) : ReportUnit :=
  let rest := u.queue.drop d
  makeOverflow now reportCapacity
    { u with queue := rest, timer := if rest.any ReportRecord.isSent then some 0 else none }

/-- The distance of an ACK's number from the head number (R144). -/
def ReportUnit.ackDistance (u : ReportUnit) (n : Half) : Nat := (n - u.headNumber).toNat

/-- An ACK at distance `d` is taken (R144 step 2): it covers at least one record, no more than the queue holds, and none in
NEW. -/
def ReportUnit.covers (u : ReportUnit) (d : Nat) : Bool :=
  decide (0 < d) && decide (d ≤ u.queue.length) && (u.queue.take d).all fun r => decide (r.delivery ≠ .new)

/-- The Report Unit takes an ACK carrying `n` (R144). -/
def ReportUnit.ack (u : ReportUnit) (now : PartTime) (n : Half) : ReportUnit :=
  if u.covers (u.ackDistance n) then u.remove now (u.ackDistance n) else u

/-- Report loss stands: the pending loss is greater than 0, or an OVERFLOW record stands in the report queue (R124). -/
def ReportUnit.lossStands (u : ReportUnit) : Bool :=
  decide (0 < u.loss) || u.queue.any fun r =>
    match r.event with
    | .overflow _ => true
    | _ => false

end Sys2Proof.Machine
end

