-- ==== Sys2Proof/Machine/State.lean ====
section
/-! DEFINITION. The state of the OC-12: the blocks of TABLE 1, the frames under way across the barrier, the control
reset in progress, and the queue of commands waiting. All of it is plain data. -/

namespace Sys2Proof.Machine

open Sys2Proof

/-- The state of the part. -/
structure State where
  /-- Host Link (HLK). -/
  hlk : HostLink
  /-- Command Engine (CE). -/
  ce : CommandEngine
  /-- Channel Table (CT). -/
  ct : ChannelTable
  /-- Action Queue (AQ), in queue order (R92). -/
  aq : List Action
  /-- Report Unit (RU). -/
  ru : ReportUnit
  /-- Mark Capture (MC). -/
  mc : MarkCapture
  /-- Barrier Link Controller (BLC). -/
  blc : BarrierController
  /-- The frames under way across the barrier. -/
  barrier : Barrier
  /-- The field side (BLR, SM, CS0 to CS11), or none while the field die is stopped: "no state of the field side is kept"
  (R46). -/
  field : Option FieldSide
  /-- The cause of the control reset that holds the logic side, or none while the logic side runs (R172). -/
  held : Option ResetPin
  /-- The cause of the last control reset (R172, R179). -/
  lastCause : ResetCause
  /-- The commands waiting, first in, first out. -/
  pending : List Instr
  deriving DecidableEq, Repr

/-- Why the part stops. No rule of the manual stops the part, and every command completes: the type has no constructor, so no
step of this model can end in a fault (DEDUCED, safe: there is nothing to raise; log entry 19). -/
inductive Fault where
  deriving DecidableEq, Repr

/-- Why a command has no meaning. -/
inductive Refusal where
  /-- Raised by Dispatch.lean for a row of the table that has no meaning yet (safe: nothing is claimed of it). No row is left
  so in this model. -/
  | notModelled (mnemonic : String)
  deriving DecidableEq, Repr

/-- What the field die senses at `State.reset`: VF at its nominal 24 V, no load current, every output at 0 V and every junction
at 25 °C (DESIGN CHOICE, log entry 1). -/
def FieldSense.nominal : FieldSense := ⟨24000, Table.all ⟨0, 0, 25000⟩⟩

/-- The part right after reset: the moment at which a control reset of cause POWER ends (R172), with MARK and NSTOP high and
both straps 0, and a field die that has just made a field reset of cause SUPPLY (R46). Which of the two resets of the two dies
comes first, the levels of the pins and the sensed values are the model's choice (DESIGN CHOICE, log entry 1). -/
def State.reset : State where
  hlk := HostLink.reset 0
  ce := CommandEngine.reset
  ct := ChannelTable.reset .high
  aq := []
  ru := ReportUnit.reset .power
  mc := MarkCapture.reset .high
  blc := BarrierController.reset
  barrier := ⟨some DriveFrame.first, [], []⟩
  field := some (FieldSide.reset .supply 0 FieldSense.nominal)
  held := none
  lastCause := .power
  pending := []

end Sys2Proof.Machine
end

