-- ==== Sys2Proof/Machine/Flags.lean ====
section
/-! DEFINITION. What the part shows of its state on its lines and in its flags: NALERT (R124, R125), the link flag (R88), the resume
and stop flags of the next drive frame (R77, R54), the switches (R1), the test currents (R21) and TXD. -/

namespace Sys2Proof.Machine

open Sys2Proof

/-- The link state is UP or DEGRADED: the link flag of SET_OUTPUTS (R88) and the resume flag (R77). -/
def LinkState.carries : LinkState → Bool
  | .up | .degraded => true
  | .syncing | .lost => false

/-- The logic side runs: no control reset holds it (R172). -/
def State.runs (s : State) : Bool := s.held.isNone

/-- Some fault latch of some channel is set (R124). -/
def ChannelTable.anyLatch (t : ChannelTable) : Bool := t.entries.toList.any fun e => e.latched.any

/-- Some channel's mirrored protection state is LOCKED (R124). -/
def ChannelTable.anyLocked (t : ChannelTable) : Bool := t.entries.toList.any ChannelEntry.mirroredLocked

/-- NALERT is asserted (R124); a control reset asserts it for as long as it is held (R125, R172). -/
def State.nalert (s : State) : Bool :=
  !s.runs || s.ct.anyLatch || s.ct.anyLocked || decide (s.blc.link ≠ .up) || decide (s.ct.band ≠ .normal)
    || s.ru.lossStands || s.ct.hostSilent

/-- The switch of output `c` is closed (R1): never while the field die is stopped (R46). -/
def State.switchClosed (s : State) (c : Chan) : Bool :=
  match s.field with
  | none => false
  | some f =>
    match (f.channels.get c).supervisor.protection with
    | .starting | .on | .limiting => true
    | .off | .cooldown | .locked => false

/-- The test current is sourced onto output `c` (R21): never while the field die is stopped. -/
def State.testCurrent (s : State) (c : Chan) : Bool :=
  match s.field with
  | none => false
  | some f => (f.channels.get c).supervisor.testCurrent

/-- The frame on TXD, or none while TXD is high (R169, R172). -/
def State.onTxd (s : State) : Option Frame :=
  match s.hlk.txd with
  | .sending t => some t.frame
  | .idle | .quiet => none

end Sys2Proof.Machine
end

