-- ==== Sys2Proof/Machine/Ops.lean ====
section
/-! DEFINITION. The operations that the meanings of several commands share: taking a happening, raising events, applying entries of
the Action Queue, flushing it, host silence, and placing a frame in the response queue. -/

namespace Sys2Proof.Machine

open Sys2Proof

/-! ## Taking a happening -/

/-- A happening is taken: with its conditions met it has its effect; otherwise it does not come about, and the part goes on as it
was (DESIGN CHOICE, safe; log entry 2). -/
def happening (enabled : Bool) (effect : State → State) (s : State) : Host.Outcome State Fault Refusal :=
  .next (if enabled then effect s else s)

/-- A happening of the logic side: it is taken only while no control reset holds the logic side (R172). -/
def logicHappening (enabled : Bool) (effect : State → State) (s : State) : Host.Outcome State Fault Refusal :=
  happening (s.runs && enabled) effect s

/-- A happening of the field side: it is taken only while the field die runs (R46). -/
def fieldHappening (effect : FieldSide → FieldSide) (s : State) : Host.Outcome State Fault Refusal :=
  .next { s with field := s.field.map effect }

/-- A happening at the supervisor of channel `c` (TABLE 11). -/
def supervisorHappening (c : Chan) (effect : Supervisor → Supervisor) (s : State) : Host.Outcome State Fault Refusal :=
  fieldHappening (fun f => f.supervise c effect) s

/-- TXD is idle (R169). -/
def State.txIdle (s : State) : Bool := decide (s.hlk.txd = .idle)

/-- TXD is idle, and no response, no snapshot and no REPORT frame waits for it (R140, R154, R168, R169). -/
def State.txdFree (s : State) : Bool :=
  s.txIdle && s.hlk.responses.isEmpty && s.mc.slot.isNone && decide (s.ru.offered = 0)

/-- The happening that leads from `s` to `t` has placed a response and made a REPORT frame offered, at one moment, while TXD was
idle (R169). -/
def tieBetween (s t : State) : Bool := s.txdFree && !t.hlk.responses.isEmpty && decide (0 < t.ru.offered)

/-- The state `t` that a happening taken in `s` leaves: "either may be taken first" if a response and a REPORT frame came with it
(R169; log entry 24). -/
def State.tiedFrom (t s : State) : State := { t with hlk := { t.hlk with tie := t.hlk.tie || tieBetween s t } }

/-- A happening of the logic side that can place a response and raise events at one moment (R169). -/
def placingHappening (enabled : Bool) (effect : State → State) (s : State) : Host.Outcome State Fault Refusal :=
  logicHappening enabled (fun s => (effect s).tiedFrom s) s

/-! ## Events -/

/-- The Report Unit takes the events of a happening, in the order in which it raises them, stamped with part time (R121, R127). -/
def State.raise (s : State) (es : List Event) : State := { s with ru := s.ru.takeAll s.blc.time es }

/-! ## The Action Queue -/

/-- An entry of the Action Queue is applied (R98, R99, R100): its demands are written, it leaves the queue, ACTION_APPLIED is
raised, and its reservation becomes the REVERT entry. -/
def State.applyAction (s : State) (a : Action) : State :=
  ({ s with
    ct := { s.ct with demand := writeDemand s.ct.demand a.channels a.states }
    aq := applyToQueue s.aq a s.blc.time s.ct.demand } : State).raise [.actionApplied a.tag a.phase a.channels]

/-- Entries are applied one after another in the order given (R97, R101). -/
def State.applyActions (s : State) (as : List Action) : State := as.foldl State.applyAction s

/-- Every AT_TIME entry whose due time is reached is applied, in queue order (R97). -/
def State.applyDue (s : State) : State := s.applyActions (s.aq.filter (Action.isDue s.blc.time))

/-- Every AT_MARK entry is applied, in order of insertion (R101). -/
def State.applyMarks (s : State) : State := s.applyActions (s.aq.filter Action.isMark)

/-- The QUEUE_FLUSHED event of a flush that removes `n` entries: none when it removes none (R106). -/
def flushEvents (reason : FlushReason) (n : Nat) : List Event := if n = 0 then [] else [.queueFlushed reason n]

/-- The Action Queue is flushed (R106), and the events `after` of the same happening follow QUEUE_FLUSHED (R123). -/
def State.flush (s : State) (reason : FlushReason) (after : List Event) : State :=
  ({ s with aq := [] } : State).raise (flushEvents reason s.aq.length ++ after)

/-! ## NSTOP -/

/-- The NSTOP assertion (R55). -/
def State.assertStop (s : State) : State :=
  ({ s with ct := s.ct.assertStop } : State).flush .stop [.stop .asserted]

/-- The NSTOP release (R56). -/
def State.releaseStop (s : State) : State :=
  ({ s with ct := s.ct.releaseStop } : State).raise [.stop .released]

/-! ## Host silence -/

/-- The silence timeout in barrier cycles: 200 for each 10 ms (R170). -/
def silenceCycles (timeout : Byte) : Nat := 200 * timeout.toNat

/-- The silence count runs: the timeout is not 0 and host silence is not in force (R170). -/
def State.silenceRuns (s : State) : Bool := decide (s.hlk.timeout ≠ 0) && !s.ct.hostSilent

/-- Host silence begins (R58, R171). -/
def State.beginSilence (s : State) : State :=
  ({ s with ct := s.ct.beginSilence } : State).flush .hostSilent [.hostSilent .begins]

/-- Host silence ends (R60, R171): the count starts again from 0. -/
def State.endSilence (s : State) : State :=
  ({ s with ct := s.ct.endSilence, hlk := { s.hlk with silence := 0 } } : State).raise [.hostSilent .ends]

/-- Host silence ends if it is in force (R165 step 1). -/
def State.endSilenceIfAny (s : State) : State := if s.ct.hostSilent then s.endSilence else s

/-- An ACK frame, or a frame dropped because the inbound queue is full, acts on the host silence timer (R170, R171): it ends
host silence, and out of silence it sets the count to 0. -/
def State.hostHeard (s : State) : State :=
  if s.ct.hostSilent then s.endSilence else { s with hlk := { s.hlk with silence := 0 } }

/-- The silence count has reached the timeout, and host silence is to begin (R170, R171). -/
def State.silenceDue (s : State) : Bool :=
  s.silenceRuns && decide (silenceCycles s.hlk.timeout ≤ s.hlk.silence)

/-! ## The response queue -/

/-- The places of the inbound command queue and of the response queue (R163, R168). -/
def linkPlaces : Nat := 4

/-- A frame is placed at the tail of the response queue (R168). -/
def State.place (s : State) (t : TxFrame) : State :=
  { s with hlk := { s.hlk with responses := s.hlk.responses ++ [t] } }

end Sys2Proof.Machine
end

