-- ==== Sys2Proof/Machine/Responses.lean ====
section
/-! DEFINITION. The bytes of the frames the part sends: enumerated codes (TABLE 66), event records (TABLE 67, 68), configuration
records (TABLE 70), descriptors (TABLE 73), snapshots (TABLE 74) and the payloads of responses (TABLE 71, 72). -/

namespace Sys2Proof.Machine

open Sys2Proof

/-! ## Enumerated codes (TABLE 66, TABLE 70) -/

def LinkState.code : LinkState → Byte
  | .syncing => 0 | .up => 1 | .degraded => 2 | .lost => 3

def FieldMode.code : FieldMode → Byte
  | .waiting => 0 | .active => 1 | .safe => 2

def Band.code : Band → Byte
  | .dropout => 0 | .low => 1 | .normal => 2

def Protection.code : Protection → Byte
  | .off => 0 | .starting => 1 | .on => 2 | .limiting => 3 | .cooldown => 4 | .locked => 5

def faultCode : FaultKind → Byte
  | .overcurrent => 0 | .overtemp => 1 | .openOn => 2 | .openOff => 3 | .shortSupply => 4

def ResetCause.code : ResetCause → Byte
  | .power => 1 | .pin => 2 | .command => 3

def FieldCause.code : FieldCause → Byte
  | .supply => 0 | .control => 1

def TripCause.code : TripCause → Byte
  | .overcurrent => 0 | .overtemp => 1

def Phase.code : Phase → Byte
  | .main => 0 | .revert => 1

def Trigger.code : Trigger → Byte
  | .atTime _ => 0 | .atMark => 1

def FilterAction.code : FilterAction → Byte
  | .report => 0 | .count => 1 | .drop => 2

def FlushReason.code : FlushReason → Byte
  | .stop => 0 | .hostSilent => 1

def SilenceEdge.code : SilenceEdge → Byte
  | .begins => 0 | .ends => 1

def StopEdge.code : StopEdge → Byte
  | .asserted => 0 | .released => 1

def RxReason.code : RxReason → Byte
  | .framing => 0 | .gap => 1 | .length => 2 | .crc => 3 | .dropped => 4

def LimitClass.code : LimitClass → Byte
  | .low => 0 | .mid => 1 | .high => 2

def OpenThreshold.code : OpenThreshold → Byte
  | .ma2 => 0 | .ma10 => 1 | .ma40 => 2

def OpenQualification.code : OpenQualification → Byte
  | .us500 => 0 | .ms2 => 1 | .ms6 => 2 | .ms20 => 3

/-! ## Event records -/

/-- A byte of four detail bytes after two given ones (TABLE 68). -/
def detail2 (a b : Byte) : List Byte := [a, b, 0, 0]

/-- The four detail bytes of an event (TABLE 68). -/
def Event.detail : Event → List Byte
  | .start cause => detail2 cause.code 0
  | .faultSet _ k => detail2 (faultCode k) 0
  | .faultCleared _ k => detail2 (faultCode k) 0
  | .retry _ n cause => detail2 (byteOf n) cause.code
  | .locked _ cause => detail2 cause.code 0
  | .unlocked _ => detail2 0 0
  | .configApplied _ g => detail2 (g.setWidth 8) 0
  | .actionApplied tag phase channels => [tag, phase.code] ++ maskBytes channels
  | .queueFlushed reason n => detail2 reason.code (byteOf n)
  | .supply old new => detail2 old.code new.code
  | .barrier old new => detail2 old.code new.code
  | .fieldRestart cause => detail2 cause.code 0
  | .hostSilent edge => detail2 edge.code 0
  | .stop edge => detail2 edge.code 0
  | .rxError reason => detail2 reason.code 0
  | .overflow lost => bytes2 (BitVec.ofNat 16 lost) ++ [0, 0]

/-- The channel byte of an event record, FFh for none (TABLE 67). -/
def channelByte : Option Chan → Byte
  | some c => byteOf c.val
  | none => 0xFF

/-- An event record of 12 bytes (TABLE 67). -/
def ReportRecord.bytes (r : ReportRecord) : List Byte :=
  bytes2 r.seq ++ bytes4 r.time ++ [byteOf r.event.code, channelByte r.event.channel] ++ r.event.detail

/-- The payload of a REPORT frame (R193). -/
def reportPayload (records : List ReportRecord) : List Byte :=
  byteOf records.length :: records.flatMap ReportRecord.bytes

/-! ## Configuration records, descriptors and snapshots -/

/-- The enables byte (TABLE 70). -/
def ConfigRecord.enablesByte (r : ConfigRecord) : Byte :=
  (0#4) ++ BitVec.ofBool (decide (r.failAction = .hold)) ++ BitVec.ofBool r.shortSupplyEnable
    ++ BitVec.ofBool r.openOffEnable ++ BitVec.ofBool r.openOnEnable

/-- A configuration record of 8 bytes (TABLE 70). -/
def ConfigRecord.bytes (r : ConfigRecord) : List Byte :=
  [r.limitClass.code, byteOf r.inrush, byteOf r.retryDelay, byteOf r.retryBudget, r.openThreshold.code,
    r.openQualification.code, r.enablesByte, byteOf r.holdTime]

/-- The 40-bit value of a descriptor (TABLE 73): entry type, revert delay, channel code. -/
def Action.packed (a : Action) : BitVec 40 :=
  a.typeCode ++ BitVec.setWidth 18 (a.revert.getD 0) ++ BitVec.ofNat 20 a.channelCode

/-- A descriptor of 10 bytes (TABLE 73). -/
def Action.descriptor (a : Action) : List Byte := a.tag :: (bytes4 a.dueField ++ bytes5 a.packed)

/-- A snapshot of 35 bytes (TABLE 74). -/
def Snapshot.bytes (p : Snapshot) : List Byte :=
  bytes2 p.number ++ bytes4 p.time ++ [byteOf p.overwrites, p.link.code, p.band.code] ++ maskBytes p.demand
    ++ p.protections.toList.map Protection.code ++ p.latched.toList.map kindsByte

/-! ## Responses (TABLE 71, TABLE 72) -/

/-- Family code of PING (R179). -/
def familyCode : Byte := 0x0B

/-- Part code of PING (R179). -/
def partCode : Byte := 0x0C

/-- The revision letter of PING (R179), an ASCII capital letter; which one is free (Config.revision, log entry 4). -/
def revisionByte : Byte := byteOf (0x41 + Config.revision.val)

/-- The contents of PING's response after the status (R179). -/
def pingContents (s : State) : List Byte :=
  [familyCode, partCode, revisionByte, s.hlk.rate.setWidth 8] ++ bytes4 s.blc.time ++ [s.lastCause.code]

/-- The flags byte of READ_STATUS (R180, TABLE 71). -/
def statusFlags (s : State) : Byte :=
  (0#4) ++ BitVec.ofBool s.nalert ++ BitVec.ofBool s.mc.auto ++ BitVec.ofBool s.ct.hostSilent
    ++ BitVec.ofBool (decide (s.ct.nstop = .low))

/-- The pending loss as READ_STATUS reports it, standing at 4,294,967,295 (R137, R180). -/
def reportedLoss (loss : Nat) : BitVec 32 := BitVec.ofNat 32 (min loss 4294967295)

/-- The contents of READ_STATUS' response after the status (R180). -/
def statusContents (s : State) : List Byte :=
  [s.blc.link.code, byteOf s.blc.quality, s.blc.mirrorMode.code, s.ct.band.code, statusFlags s, s.hlk.timeout]
    ++ bytes4 s.blc.time
    ++ [byteOf s.aq.length, byteOf (reservations s.aq), byteOf (s.ru.countIn .new), byteOf (s.ru.countIn .sent),
        byteOf (s.ru.countIn .resend)]
    ++ bytes4 (reportedLoss s.ru.loss) ++ bytes2 s.ru.next

/-- The contents of SET_OUTPUTS' response (R88, R181): the locked set of the mask and the link flag. -/
def setOutputsContents (s : State) (channels : ChanSet) : List Byte :=
  maskBytes (channels &&& s.ct.lockedSet) ++ [flagByte s.blc.link.carries]

/-- The contents of QUEUE_ACTION's response (R95, R182), from the accepted entry and the queue after it. -/
def queueActionContents (a : Action) (q : List Action) : List Byte :=
  [a.trigger.code] ++ bytes4 a.dueField ++ [byteOf q.length, byteOf (reservations q)]

/-- The contents of CANCEL_ACTION's response when it removes the entry `a` (R103, R183). -/
def cancelContents (a : Action) : List Byte := [a.phase.code, byteOf a.placesFreed]

/-- The most descriptors a LIST_ACTIONS response carries (R105). -/
def listLimit : Nat := 5

/-- The contents of LIST_ACTIONS' response (R105, R184). -/
def listContents (s : State) (start : Nat) : List Byte :=
  bytes4 s.blc.time ++ [byteOf s.aq.length, byteOf (reservations s.aq), byteOf start]
    ++ ((s.aq.drop start).take listLimit).flatMap Action.descriptor

/-- The contents of READ_CHANNEL's response (R187, TABLE 72). -/
def readChannelContents (s : State) (c : Chan) : List Byte :=
  let e := s.ct.entries.get c
  [byteOf c.val] ++ e.record.bytes
    ++ [BitVec.ofBool e.pending ++ (0#4) ++ e.generation,
        match e.mirror.applied with
        | some g => g.setWidth 8
        | none => 0xFF,
        e.mirror.protection.code, byteOf e.mirror.retry, kindsByte e.mirror.conditions, kindsByte e.latched]
    ++ (allKinds.map fun k => (e.mirror.counters.get k).setWidth 8)
    ++ [(0#2) ++ e.mirror.token ++ e.token ++ (0#1) ++ BitVec.ofBool (ChanSet.has s.ct.demand c)]
    ++ bytes2 (BitVec.ofNat 16 (e.countdown.getD 0))

/-- The contents of CONFIGURE_CHANNEL's response (R33, R186): the channels of the command's set that are pending. -/
def configureContents (t : ChannelTable) (channels : ChanSet) : List Byte := maskBytes (channels &&& t.pendingSet)

/-- The contents of CLEAR_FAULTS' response (R116, R188). -/
def clearFaultsContents (t : ChannelTable) (cleared present : PerChan (PerKind Bool)) (releaseSet : ChanSet) : List Byte :=
  cleared.toList.map kindsByte ++ present.toList.map kindsByte ++ maskBytes releaseSet
    ++ maskBytes (releaseSet &&& t.outstandingSet)

/-- The contents of READ_FILTER's response (R132, R190). -/
def readFilterContents (i : Fin 8) (f : FilterEntry) : List Byte :=
  [byteOf i.val, flagByte f.enabled] ++ bytes2 f.kinds
    ++ bytes2 (BitVec.ofBool f.noChannel ++ (0#3) ++ f.channels) ++ [f.action.code] ++ bytes2 (BitVec.ofNat 16 f.count)

/-- The BUSY notice for a dropped frame (R163, R178). -/
def busyNotice (dropped : Frame) : TxFrame := ⟨⟨dropped.seq, busyKind, [Status.busy.code, dropped.kind]⟩, false⟩

/-- The response to a command frame (R158, R176). -/
def responseTo (f : Frame) (status : Status) (contents : List Byte) : Frame :=
  ⟨f.seq, responseKind f.kind, status.code :: contents⟩

end Sys2Proof.Machine
end

