-- ==== Sys2Proof/Machine/Engine.lean ====
section
/-! DEFINITION. The Command Engine: what each of the fourteen commands does once its fields have passed (Chapters 2, 5, 6, 7, 8, 10), the
taking of a frame (R165), the wait and its end (R166), and the reply cache (R167). -/

namespace Sys2Proof.Machine

open Sys2Proof

/-- How an executed command goes on (R165): it ends with a status and its response's contents, it waits, or it is a SOFT_RESET. -/
inductive Ending where
  | done (status : Status) (contents : List Byte)
  | waits (a : Awaited)
  | resets
  deriving DecidableEq, Repr

/-- The state a command leaves and how it goes on. -/
structure Executed where
  state : State
  ending : Ending
  deriving DecidableEq, Repr

/-- A command that ends with OK and leaves the state as it is. -/
def answers (s : State) (contents : List Byte) : Executed := ⟨s, .done .ok contents⟩

/-- A command that is refused, or that ends with a status and no contents (R176). -/
def refuses (s : State) (status : Status) : Executed := ⟨s, .done status []⟩

/-! ## The effect of each command -/

/-- SET_OUTPUTS (R87, R88): refused with STOPPED while NSTOP is recognised LOW; otherwise one write of the demand. -/
def runSetOutputs (channels states : ChanSet) (s : State) : Executed :=
  if s.ct.nstop = .low then refuses s .stopped
  else
    answers { s with ct := { s.ct with demand := writeDemand s.ct.demand channels states } }
      (setOutputsContents s channels)

/-- The MAIN entry of a QUEUE_ACTION taken at part time `now` (R93, R94). -/
def mainEntry (now : PartTime) (tag : Byte) (delay : Option PartTime) (channels states : ChanSet)
    (revert : Option PartTime) : Action :=
  ⟨tag, .main,
    match delay with
    | some d => .atTime (now + d)
    | none => .atMark,
    channels, states, revert⟩

/-- QUEUE_ACTION (R94, R96): STOPPED, then QUEUE_FULL, then DUPLICATE_TAG; otherwise the MAIN entry joins the queue. -/
def runQueueAction (tag : Byte) (delay : Option PartTime) (channels states : ChanSet) (revert : Option PartTime)
    (s : State) : Executed :=
  if s.ct.nstop = .low then refuses s .stopped
  else if queuePlaces < placesTaken s.aq + placesNeeded revert then refuses s .queueFull
  else if (findTag s.aq tag).isSome then refuses s .duplicateTag
  else
    let a := mainEntry s.blc.time tag delay channels states revert
    let q := insertAction s.blc.time a s.aq
    answers { s with aq := q } (queueActionContents a q)

/-- CANCEL_ACTION (R103). -/
def runCancelAction (tag : Byte) (s : State) : Executed :=
  match findTag s.aq tag with
  | none => refuses s .notFound
  | some a => answers { s with aq := removeTag s.aq tag } (cancelContents a)

/-- CONFIGURE_CHANNEL (R32, R33): it ends at once with PENDING while the link is SYNCING or LOST, and waits otherwise. -/
def runConfigure (channels : ChanSet) (r : ConfigRecord) (s : State) : Executed :=
  let t := s.ct.configure channels r
  let s1 : State := { s with ct := t }
  if s.blc.link.carries then ⟨s1, .waits (.confirmation channels)⟩
  else ⟨s1, .done .pending (configureContents t channels)⟩

/-- The release set of CLEAR_FAULTS (R115): empty with the release flag clear. -/
def releaseSetOf (t : ChannelTable) (channels : ChanSet) (release : Bool) : ChanSet :=
  if release then channels &&& t.lockedSet else 0

/-- CLEAR_FAULTS (R113, R115, R116): the latch part, then the release part; it ends at once with OK if the release set is empty, at
once with PENDING while the link is SYNCING or LOST, and waits otherwise. -/
def runClearFaults (channels : ChanSet) (kinds : PerKind Bool) (release : Bool) (s : State) : Executed :=
  let cleared := s.ct.clearedKinds channels kinds
  let present := s.ct.presentKinds channels kinds
  let set := releaseSetOf s.ct channels release
  let t := (s.ct.clearLatches cleared).advanceTokens set
  let s1 := ({ s with ct := t } : State).raise (clearedEvents cleared)
  if set = 0 then answers s1 (clearFaultsContents t cleared present set)
  else if s.blc.link.carries then ⟨s1, .waits (.release cleared present set)⟩
  else ⟨s1, .done .pending (clearFaultsContents t cleared present set)⟩

/-- SET_FILTER (R131). -/
def runSetFilter (i : Fin 8) (f : FilterEntry) (s : State) : Executed :=
  answers { s with ru := { s.ru with filter := s.ru.filter.set i f } } []

/-- READ_FILTER (R132): the entry as it stands; with the clear flag its match count then becomes 0. -/
def runReadFilter (i : Fin 8) (clear : Bool) (s : State) : Executed :=
  let f := s.ru.filter.get i
  let s1 : State :=
    if clear then { s with ru := { s.ru with filter := s.ru.filter.set i { f with count := 0 } } } else s
  answers s1 (readFilterContents i f)

/-- READ_SNAPSHOT (R155, R191). -/
def runReadSnapshot (s : State) : Executed :=
  match s.mc.last with
  | some p => answers s p.bytes
  | none => refuses s .unavailable

/-- The automatic-report flag takes a value (R152): turned off, it empties the slot and sets the overwrite count to 0. -/
def MarkCapture.setAuto (m : MarkCapture) (auto : Bool) : MarkCapture :=
  if m.auto = auto then m else { m with auto := auto, slot := none, overwrites := 0 }

/-- SET_MODE (R170, R152, R192). -/
def runSetMode (timeout : Byte) (auto : Bool) (s : State) : Executed :=
  answers { s with hlk := { s.hlk with timeout := timeout, silence := 0 }, mc := s.mc.setAuto auto } []

/-- A command whose fields have passed is executed against the block that owns its effect (R165 step 3). -/
def runCommand (c : HostCommand) (s : State) : Executed :=
  match c with
  | .ping => answers s (pingContents s)
  | .readStatus => answers s (statusContents s)
  | .setOutputs channels states => runSetOutputs channels states s
  | .queueAction tag delay channels states revert => runQueueAction tag delay channels states revert s
  | .cancelAction tag => runCancelAction tag s
  | .listActions start => answers s (listContents s start)
  | .configureChannel channels record => runConfigure channels record s
  | .readChannel c => answers s (readChannelContents s c)
  | .clearFaults channels kinds release => runClearFaults channels kinds release s
  | .setFilter i f => runSetFilter i f s
  | .readFilter i clear => runReadFilter i clear s
  | .readSnapshot => runReadSnapshot s
  | .setMode timeout auto => runSetMode timeout auto s
  | .softReset => ⟨s, .resets⟩

/-! ## Ending a command -/

/-- The frame's command ends with the response `r` (R165, R166): the response is placed, the reply cache is replaced (R167), and the
Command Engine is IDLE. -/
def State.finish (s : State) (f r : Frame) : State :=
  { s.place ⟨r, false⟩ with ce := ⟨.idle, some ⟨f.seq, f.crc, r⟩⟩ }

/-- The end of an executed command (R165): a response, the beginning of the wait, or RESETTING (R173). -/
def State.conclude (s : State) (f : Frame) : Ending → State
  | .done status contents => s.finish f (responseTo f status contents)
  | .waits a => { s with ce := { s.ce with engine := .waiting ⟨f, a, 0⟩ } }
  | .resets => { s.place ⟨responseTo f .ok [], true⟩ with ce := { s.ce with engine := .resetting } }

/-- The frame is validated and, if it passes, executed (R165 step 3, R177). -/
def State.execute (s : State) (f : Frame) : State :=
  match validate f with
  | .error status => s.finish f (responseTo f status [])
  | .ok c => (runCommand c s).state.conclude f (runCommand c s).ending

/-! ## Taking a frame (R164, R165, R167) -/

/-- The reply that the cache holds for a frame (R165 step 2, R167). -/
def CommandEngine.cached (e : CommandEngine) (f : Frame) : Option Frame :=
  match e.cache with
  | some r => if r.seq = f.seq ∧ r.crc = f.crc then some r.response else none
  | none => none

/-- The Command Engine deals with the frame it has taken (R165): host silence in force ends first; a cached reply is copied;
otherwise the frame is validated and executed. -/
def State.deal (s : State) (f : Frame) : State :=
  let s1 := s.endSilenceIfAny
  match s1.ce.cached f with
  | some r => s1.place ⟨r, false⟩
  | none => s1.execute f

/-- The Command Engine takes a frame (TABLE 58, R164): it is IDLE and the response queue has a free place. -/
def State.engineReady (s : State) : Bool := decide (s.ce.engine = .idle) && decide (s.hlk.responses.length < linkPlaces)

/-- The frame at the head of the inbound queue leaves it (R164). -/
def State.dropHead (s : State) : State := { s with hlk := { s.hlk with inbound := s.hlk.inbound.tail } }

/-- The Command Engine takes the frame at the head of the inbound queue, if there is one (R164, R165). -/
def State.takeCommand (s : State) : State :=
  match s.hlk.inbound with
  | [] => s
  | f :: _ => s.dropHead.deal f

/-! ## The wait (R166) -/

/-- The length of the wait timer in advances of part time: 20 ms (R166). -/
def waitLength : Nat := 400

/-- What the command waits for is no longer outstanding (R33, R116, R166). -/
def Awaited.over (a : Awaited) (t : ChannelTable) : Bool :=
  match a with
  | .confirmation channels => decide (channels &&& t.pendingSet = 0)
  | .release _ _ channels => decide (channels &&& t.outstandingSet = 0)

/-- The contents of the response formed when the wait ends (R166, R186, R188). -/
def Awaited.contents (a : Awaited) (t : ChannelTable) : List Byte :=
  match a with
  | .confirmation channels => configureContents t channels
  | .release cleared present channels => clearFaultsContents t cleared present channels

/-- The waiting command ends with a status (R166). -/
def State.endWait (s : State) (w : WaitingCommand) (status : Status) : State :=
  s.finish w.frame (responseTo w.frame status (w.awaited.contents s.ct))

/-- The end test of a waiting command, made after each good status frame (R166). -/
def State.testWait (s : State) : State :=
  match s.ce.engine with
  | .waiting w => if w.awaited.over s.ct then s.endWait w .ok else s
  | .idle | .resetting => s

/-- The wait timer has run out (R166). -/
def State.waitDue (s : State) : Bool :=
  match s.ce.engine with
  | .waiting w => decide (waitLength ≤ w.elapsed)
  | .idle | .resetting => false

/-- The wait timer runs out and the command ends with TIMEOUT (R33, R116, R166). -/
def State.waitExpiry (s : State) : State :=
  match s.ce.engine with
  | .waiting w => s.endWait w .timeout
  | .idle | .resetting => s

/-- The wait timer counts an advance of part time (R166). -/
def CommandEngine.tick (e : CommandEngine) : CommandEngine :=
  match e.engine with
  | .waiting w => { e with engine := .waiting { w with elapsed := min waitLength (w.elapsed + 1) } }
  | .idle | .resetting => e

end Sys2Proof.Machine
end

