-- ==== Sys2Proof/Machine/BarrierLink.lean ====
section
/-! DEFINITION. The Barrier Link Controller (Chapter 4): the close of a cycle, the drive frame of the next, the good status frame,
and the meanings of BARRIER_CYCLE_START, GOOD_STATUS_FRAME_TAKEN and the happenings of the counts of part time. -/

namespace Sys2Proof.Machine

open Sys2Proof

/-! ## The close of a cycle (R71) -/

/-- The counts after a missed status frame (R71): the consecutive-miss count and the quality count saturate at 255, and the sync
count is 0. -/
def BarrierController.countMiss (b : BarrierController) : BarrierController :=
  { b with misses := min 255 (b.misses + 1), quality := min 255 (b.quality + 4), sync := 0 }

/-- The link state after a missed status frame, from the counts that it leaves (R71, TABLE 33). -/
def linkAfterMiss (link : LinkState) (misses quality : Nat) : LinkState :=
  if 4 ≤ misses then .lost
  else if link = .up ∧ 64 ≤ quality then .degraded
  else link

/-- A missed status frame (R71): at the fourth consecutive one the field-boot-seen flag and the mirrored field boot flag are cleared
(R79, R80). -/
def BarrierController.miss (b : BarrierController) : BarrierController :=
  let b1 := b.countMiss
  { b1 with
    link := linkAfterMiss b.link b1.misses b1.quality
    fieldBootSeen := if 4 ≤ b1.misses then false else b.fieldBootSeen
    mirrorBoot := if 4 ≤ b1.misses then false else b.mirrorBoot }

/-- The cycle is closed (R71): it counts a miss unless a good status frame was taken in it. -/
def BarrierController.close (b : BarrierController) : BarrierController := if b.goodTaken then b else b.miss

/-- The BARRIER event of a change of link state (R77). -/
def barrierEvents (old new : LinkState) : List Event := if old = new then [] else [.barrier old new]

/-- The cycle just ended is closed, with the BARRIER event raised then (R71, R77), stamped with the part time of that
cycle (DEDUCED, unsafe; log entry 15). -/
def State.closeCycle (s : State) : State :=
  ({ s with blc := s.blc.close } : State).raise (barrierEvents s.blc.link s.blc.close.link)

/-! ## The advance of part time (R62) -/

/-- The silence count counts an advance of part time (R170): while it runs it is incremented, and it stops at the timeout. -/
def countSilence (runs : Bool) (limit count : Nat) : Nat := if runs && decide (count < limit) then count + 1 else count

/-- Part time advances by one (R62), and the counts of part time with it: the silence count (R170), the retransmission timer
(R142), the wait timer (R166) and the hold countdowns (R59). A new cycle has taken no status frame yet, and the status frames
under way are now those of the cycle before (DESIGN CHOICE, log entry 6). Each count stands at its end until its expiry is taken
(DESIGN CHOICE, safe; log entry 9). -/
def State.advance (s : State) : State :=
  { s with
    blc := { s.blc with time := s.blc.time + 1, goodTaken := false }
    hlk := { s.hlk with silence := countSilence s.silenceRuns (silenceCycles s.hlk.timeout) s.hlk.silence }
    ru := s.ru.tick
    ce := s.ce.tick
    ct := s.ct.tick
    barrier := { s.barrier with status := [], late := s.barrier.status } }

/-! ## The drive frame (R63, R81) -/

/-- The drive frame built from the Controller and the Channel Table as they stand, with the slot given (R63, TABLE 29). -/
def driveFrame (b : BarrierController) (t : ChannelTable) (slot : Option ConfigSlot) : DriveFrame where
  cycle := b.time.setWidth 8
  controlBoot := b.controlBoot
  fieldBootSeen := b.fieldBootSeen
  resume := b.link.carries
  stop := decide (t.nstop = .low)
  demand := t.demand
  tokens := t.entries.map ChannelEntry.token
  slot := slot

/-- The drive frame of the cycle is built and sent (R62, R63): the slot schedule chooses the channel it carries, moves the slot
pointer and adds the generation to the doubt set (R30, R81). R70 says that the frames between a control reset and the field reset that
it brings carry an empty demand set, tokens of 0 and no slot; a demand or a record that is written in that time, while the first
frames are lost, is carried in the next frame all the same (DESIGN CHOICE, unsafe; log entry 29). -/
def State.sendFrame (s : State) : State :=
  match s.ct.nextSlot s.blc.slotPointer with
  | none => { s with barrier := { s.barrier with drive := some (driveFrame s.blc s.ct none) } }
  | some c =>
    { s with
      barrier := { s.barrier with drive := some (driveFrame s.blc s.ct (some (s.ct.slotFor c))) }
      blc := { s.blc with slotPointer := c }
      ct := s.ct.noteSlot c }

/-! ## The happenings of the counts of part time -/

/-- A hold countdown of channel `c` has reached zero (R59). -/
def State.countdownDue (s : State) (c : Chan) : Bool := decide ((s.ct.entries.get c).countdown = some 0)

/-- The retransmission timer has run out (R142, R143). -/
def ReportUnit.timerDue (u : ReportUnit) : Bool :=
  match u.timer with
  | some n => decide (retransmissionLength ≤ n)
  | none => false

/-- A happening that falls together with an advance of part time, taken if its conditions are met. -/
def State.takeAdvance (s : State) : AdvanceHappening → State
  | .atTimeEntriesDue => s.applyDue
  | .holdCountdownExpiry c => if s.countdownDue c then { s with ct := s.ct.countdownEnds c } else s
  | .silenceTimeout => if s.silenceDue then s.beginSilence else s
  | .retransmissionTimerExpiry => if s.ru.timerDue then { s with ru := s.ru.goBack } else s
  | .waitTimerExpiry => if s.waitDue then s.waitExpiry else s

/-- The start of a cycle after the first (R62): the cycle just ended is closed, part time advances, and the drive frame is built
and sent. `first` are the happenings of this advance that are taken before the frame is built (R89, R97; DESIGN CHOICE, safe; log
entry 10). -/
def State.startCycle (s : State) (first : List AdvanceHappening) : State :=
  (first.foldl State.takeAdvance s.closeCycle.advance).sendFrame

/-- BARRIER_CYCLE_START (R62). -/
def execBarrierCycleStart (first : List AdvanceHappening) (s : State) : Host.Outcome State Fault Refusal :=
  placingHappening true (fun s => s.startCycle first) s

/-- AT_TIME_ENTRIES_DUE (R97). -/
def execAtTimeEntriesDue (s : State) : Host.Outcome State Fault Refusal :=
  logicHappening true (fun s => s.takeAdvance .atTimeEntriesDue) s

/-- HOLD_COUNTDOWN_EXPIRY (R59). -/
def execHoldCountdownExpiry (c : Chan) (s : State) : Host.Outcome State Fault Refusal :=
  logicHappening true (fun s => s.takeAdvance (.holdCountdownExpiry c)) s

/-- SILENCE_TIMEOUT (R171). -/
def execSilenceTimeout (s : State) : Host.Outcome State Fault Refusal :=
  logicHappening true (fun s => s.takeAdvance .silenceTimeout) s

/-- RETRANSMISSION_TIMER_EXPIRY (R143). -/
def execRetransmissionTimerExpiry (s : State) : Host.Outcome State Fault Refusal :=
  logicHappening true (fun s => s.takeAdvance .retransmissionTimerExpiry) s

/-- WAIT_TIMER_EXPIRY (R166). -/
def execWaitTimerExpiry (s : State) : Host.Outcome State Fault Refusal :=
  logicHappening true (fun s => s.takeAdvance .waitTimerExpiry) s

/-! ## A good status frame (R72) -/

/-- A field restart is detected in the frame (R79). -/
def BarrierController.detects (b : BarrierController) (f : StatusFrame) : Bool := f.boot && !b.mirrorBoot

/-- The Controller's counts, handshake flags and mirrors after a good status frame, before the link state is decided (R72, R78,
R79, R80, R83). -/
def BarrierController.noteFrame (b : BarrierController) (f : StatusFrame) : BarrierController :=
  { b with
    misses := 0
    quality := b.quality - 1
    goodTaken := true
    controlBoot := b.controlBoot && !f.boot
    fieldBootSeen := f.boot && (b.fieldBootSeen || b.detects f)
    mirrorBoot := f.boot
    mirrorMode := f.mode }

/-- The frame counts toward the sync count (R73): it shows the field boot flag clear and leaves no channel pending. R73 also says that a
CONFIGURE_CHANNEL taken in SYNCING sets the count to 0 at the next good status frame; if that very frame confirms its record, so that
no channel is pending after it, the model lets the frame count (DESIGN CHOICE, unsafe; log entry 25). -/
def cleanFrame (f : StatusFrame) (t : ChannelTable) : Bool := !f.boot && decide (t.pendingSet = 0)

/-- The Controller enters SYNCING, which sets the sync count to 0 (R72). -/
def BarrierController.enterSyncing (b : BarrierController) : BarrierController := { b with link := .syncing, sync := 0 }

/-- The sync count in SYNCING after a good status frame, and the end of SYNCING when it reaches 8 (R73). -/
def BarrierController.countSync (b : BarrierController) (clean : Bool) : BarrierController :=
  if clean then
    { b with
      sync := b.sync + 1
      link := if 8 ≤ b.sync + 1 then (if 64 ≤ b.quality then .degraded else .up) else .syncing }
  else { b with sync := 0 }

/-- The link state is decided from a good status frame (R72 steps 1 to 5): `b` holds the counts that the frame leaves and `t` the
Channel Table as it has taken the frame. -/
def BarrierController.decideLink (b : BarrierController) (f : StatusFrame) (t : ChannelTable) (restart : Bool) :
    BarrierController :=
  if restart then b.enterSyncing
  else match b.link with
    | .up => if f.mode = .active then b else b.enterSyncing
    | .degraded =>
      if f.mode = .active then (if b.quality ≤ 16 then { b with link := .up } else b) else b.enterSyncing
    | .lost => b.enterSyncing
    | .syncing => b.countSync (cleanFrame f t)

/-- The FIELD_RESTART event of a detection (R79). -/
def restartEvents (restart : Bool) (cause : FieldCause) : List Event := if restart then [.fieldRestart cause] else []

/-- A good status frame is taken (R72): the Controller's part, the Channel Table's part (R83), the events in the order of R122, and
the end test of a waiting command (R166). -/
def State.takeStatus (s : State) (f : StatusFrame) : State :=
  let restart := s.blc.detects f
  let t := s.ct.takeFrame f restart
  let b := (s.blc.noteFrame f).decideLink f t restart
  let events := restartEvents restart f.cause ++ s.ct.frameEvents f restart ++ barrierEvents s.blc.link b.link
  (({ s with ct := t, blc := b } : State).raise events).testWait

/-- The status frames under way across the barrier, oldest first. -/
def Barrier.underWay (b : Barrier) : List StatusFrame := b.late ++ b.status

/-- The status frame at place `k` is a good status frame if it is taken now (R65): its echoed cycle number is that of the present
cycle, and no good status frame has been taken in this cycle. -/
def State.goodFrame (s : State) (k : Nat) : Option StatusFrame :=
  match s.barrier.underWay[k]? with
  | some f => if f.cycle = s.blc.time.setWidth 8 ∧ s.blc.goodTaken = false then some f else none
  | none => none

/-- The status frames up to place `k` are no longer under way: the one taken, and those before it, which were lost. -/
def Barrier.arrived (b : Barrier) (k : Nat) : Barrier :=
  { b with late := b.late.drop (k + 1), status := b.status.drop (k + 1 - b.late.length) }

/-- The good status frame at place `k`, if it is one, is taken (R65, R72). -/
def State.receiveStatus (s : State) (k : Nat) : State :=
  match s.goodFrame k with
  | some f => ({ s with barrier := s.barrier.arrived k } : State).takeStatus f
  | none => s

/-- GOOD_STATUS_FRAME_TAKEN (R72). -/
def execGoodStatusFrameTaken (k : Nat) (s : State) : Host.Outcome State Fault Refusal :=
  placingHappening true (fun s => s.receiveStatus k) s

end Sys2Proof.Machine
end

