-- ==== Sys2Proof/Machine/FieldEvents.lean ====
section
/-! DEFINITION. The meanings of the happenings of the field side: the Barrier Link Responder's (R66, R67, R69), the Supply Monitor's
(R45, R46), and those of the Channel Supervisors' sensors and timers (TABLE 11). -/

namespace Sys2Proof.Machine

open Sys2Proof

/-! ## The Barrier Link Responder -/

/-- The status frame built from the field side as it stands is sent (R64). -/
def State.sendStatus (s : State) (f : FieldSide) : State :=
  { s with barrier := { s.barrier with status := s.barrier.status ++ [f.statusFrame] } }

/-- The drive frame under way arrives at a running field die (R67): in the 1 ms of silence after a field reset of cause SUPPLY it
is discarded (R69); otherwise it is taken and answered with a status frame. -/
def State.takeDrive (s : State) (f : FieldSide) (d : DriveFrame) (sense : FieldSense) : State :=
  if f.silent then s
  else ({ s with field := some (f.takeFrame d sense) } : State).sendStatus (f.takeFrame d sense)

/-- A drive frame arrives at the field side: it is no longer under way, and a stopped field die does not answer it (R46). -/
def State.driveArrives (s : State) (sense : FieldSense) : State :=
  let s1 : State := { s with barrier := { s.barrier with drive := none } }
  match s.barrier.drive, s.field with
  | some d, some f => s1.takeDrive f d sense
  | _, _ => s1

/-- DRIVE_FRAME_TAKEN (R67). -/
def execDriveFrameTaken (sense : FieldSense) (s : State) : Host.Outcome State Fault Refusal :=
  happening true (fun s => s.driveArrives sense) s

/-- The watch timer runs out on a running field die (R66): the miss is counted and a status frame is sent. -/
def State.watchExpires (s : State) : State :=
  match s.field with
  | some f =>
    if f.watch.isSome then ({ s with field := some f.countMiss } : State).sendStatus f.countMiss else s
  | none => s

/-- WATCH_TIMER_EXPIRY (R66). -/
def execWatchTimerExpiry (s : State) : Host.Outcome State Fault Refusal :=
  happening true State.watchExpires s

/-- HOLD_TIMER_EXPIRY (R51). -/
def execHoldTimerExpiry (c : Chan) (s : State) : Host.Outcome State Fault Refusal :=
  fieldHappening (fun f => f.holdExpiry c) s

/-- The 1 ms of silence after a field reset of cause SUPPLY has passed (R69): the watch timer starts with 60 µs. -/
def FieldSide.silenceEnds (f : FieldSide) : FieldSide :=
  if f.silent then { f with silent := false, watch := some 60 } else f

/-- SUPPLY_RESET_SILENCE_EXPIRY (R69). -/
def execSupplyResetSilenceExpiry (s : State) : Host.Outcome State Fault Refusal :=
  fieldHappening FieldSide.silenceEnds s

/-! ## The Supply Monitor -/

/-- VF, in millivolts, keeps the field die running (R46). -/
def vfHolds (vf : Nat) : Bool := decide (8000 ≤ vf)

/-- VF, in millivolts, is above the level at which the field die starts (R46). -/
def vfRestarts (vf : Nat) : Bool := decide (9000 < vf)

/-- VF_CANDIDATE_CHANGE (R45). -/
def execVfCandidateChange (vf : Nat) (s : State) : Host.Outcome State Fault Refusal :=
  fieldHappening (fun f => if vfHolds vf then f.senseSupply vf else f) s

/-- SUPPLY_FILTER_EXPIRY (R45). -/
def execSupplyFilterExpiry (voltages : PerChan Int) (s : State) : Host.Outcome State Fault Refusal :=
  fieldHappening (fun f => f.filterExpiry voltages) s

/-- FIELD_DIE_STOP (R46): no state of the field side is kept. -/
def execFieldDieStop (vf : Nat) (s : State) : Host.Outcome State Fault Refusal :=
  happening (!vfHolds vf) (fun s => { s with field := none }) s

/-- FIELD_RESET_SUPPLY (R46): a stopped field die starts with a field reset of cause SUPPLY. -/
def execFieldResetSupply (sense : FieldSense) (s : State) : Host.Outcome State Fault Refusal :=
  happening (s.field.isNone && vfRestarts sense.vf) (fun s => { s with field := some (FieldSide.reset .supply 0 sense) }) s

/-! ## The Channel Supervisors -/

/-- REGULATION_BEGINS (R2, R6, R7). -/
def execRegulationBegins (c : Chan) (current : Nat) (s : State) : Host.Outcome State Fault Refusal :=
  supervisorHappening c (fun v => v.regulationBegins current) s

/-- REGULATION_ENDS (R2, R6, R8). -/
def execRegulationEnds (c : Chan) (current : Nat) (s : State) : Host.Outcome State Fault Refusal :=
  supervisorHappening c (fun v => v.regulationEnds current) s

/-- INRUSH_TIMER_EXPIRY (R5). -/
def execInrushTimerExpiry (c : Chan) (current : Nat) (s : State) : Host.Outcome State Fault Refusal :=
  supervisorHappening c (fun v => v.inrushExpiry current) s

/-- LIMIT_TIMER_EXPIRY (R6, R8, R10). -/
def execLimitTimerExpiry (c : Chan) (s : State) : Host.Outcome State Fault Refusal :=
  supervisorHappening c Supervisor.limitExpiry s

/-- SETTLE_TIMER_EXPIRY (R7). -/
def execSettleTimerExpiry (c : Chan) (s : State) : Host.Outcome State Fault Refusal :=
  supervisorHappening c Supervisor.settleExpiry s

/-- JUNCTION_HOT (R3, R9). -/
def execJunctionHot (reading : JunctionReading) (s : State) : Host.Outcome State Fault Refusal :=
  supervisorHappening reading.chan (fun v => v.becomesHot reading.junction) s

/-- JUNCTION_COOL (R3, R12). -/
def execJunctionCool (reading : JunctionReading) (s : State) : Host.Outcome State Fault Refusal :=
  supervisorHappening reading.chan (fun v => v.becomesCool reading.junction) s

/-- COOLDOWN_TIMER_EXPIRY (R12). -/
def execCooldownTimerExpiry (c : Chan) (s : State) : Host.Outcome State Fault Refusal :=
  supervisorHappening c Supervisor.cooldownExpiry s

/-- OFF_BLANKING_EXPIRY (R20). -/
def execOffBlankingExpiry (c : Chan) (voltage : Int) (s : State) : Host.Outcome State Fault Refusal :=
  fieldHappening (fun f => f.supervise c fun v => v.blankingExpiry f.band voltage) s

/-- OPEN_THRESHOLD_CROSSING (R18). -/
def execOpenThresholdCrossing (c : Chan) (current : Nat) (s : State) : Host.Outcome State Fault Refusal :=
  supervisorHappening c (fun v => v.thresholdCrossing current) s

/-- OPEN_ON_QUALIFICATION_EXPIRY (R18). -/
def execOpenOnQualificationExpiry (c : Chan) (s : State) : Host.Outcome State Fault Refusal :=
  supervisorHappening c Supervisor.openOnQualifies s

/-- OPEN_ON_CURRENT_RECOVERY (R19). -/
def execOpenOnCurrentRecovery (c : Chan) (current : Nat) (s : State) : Host.Outcome State Fault Refusal :=
  supervisorHappening c (fun v => v.openOnRecovers current) s

/-- OUTPUT_VOLTAGE_WINDOW_CHANGE (R22, R23). -/
def execOutputVoltageWindowChange (c : Chan) (voltage : Int) (s : State) : Host.Outcome State Fault Refusal :=
  fieldHappening (fun f => f.supervise c fun v => v.senseVoltage f.band voltage) s

/-- OPEN_OFF_QUALIFICATION_EXPIRY (R22). -/
def execOpenOffQualificationExpiry (c : Chan) (s : State) : Host.Outcome State Fault Refusal :=
  supervisorHappening c Supervisor.openOffQualifies s

/-- OPEN_OFF_CLEARING_EXPIRY (R22). -/
def execOpenOffClearingExpiry (c : Chan) (s : State) : Host.Outcome State Fault Refusal :=
  supervisorHappening c Supervisor.openOffClears s

/-- SHORT_SUPPLY_QUALIFICATION_EXPIRY (R23). -/
def execShortSupplyQualificationExpiry (c : Chan) (s : State) : Host.Outcome State Fault Refusal :=
  supervisorHappening c Supervisor.shortSupplyQualifies s

/-- SHORT_SUPPLY_CLEARING_EXPIRY (R23). -/
def execShortSupplyClearingExpiry (c : Chan) (s : State) : Host.Outcome State Fault Refusal :=
  supervisorHappening c Supervisor.shortSupplyClears s

end Sys2Proof.Machine
end

