-- ==== Sys2Proof/Machine/HostCommands.lean ====
section
/-! DEFINITION. The meanings of COMMAND_TAKEN and of the fourteen host commands. "The Command Engine then deals with the frame under
R165 as one happening" (R164): a row that names a command is that same happening when the frame at the head of the inbound queue
is the frame of that command with the row's fields (DESIGN CHOICE, safe; log entry 11). -/

namespace Sys2Proof.Machine

open Sys2Proof

/-- The Command Engine may take a frame, and the frame at the head of the inbound queue is `f` (R164). -/
def State.mayTake (s : State) (f : Frame) : Bool := s.engineReady && decide (s.hlk.inbound.head? = some f)

/-- The command frame `f` is taken from the head of the inbound queue (R164, R165). -/
def hostCommand (f : Frame) (s : State) : Host.Outcome State Fault Refusal :=
  placingHappening (s.mayTake f) (fun s => s.dropHead.deal f) s

/-- COMMAND_TAKEN (R165): the frame at the head of the inbound queue, whatever it holds. -/
def execCommandTaken (s : State) : Host.Outcome State Fault Refusal :=
  placingHappening s.engineReady State.takeCommand s

/-- PING (R179). -/
def execPing (seq : Byte) (s : State) : Host.Outcome State Fault Refusal :=
  hostCommand (commandFrame .ping seq []) s

/-- READ_STATUS (R180). -/
def execReadStatus (seq : Byte) (s : State) : Host.Outcome State Fault Refusal :=
  hostCommand (commandFrame .readStatus seq []) s

/-- SET_OUTPUTS (R87, R181). -/
def execSetOutputs (seq : Byte) (channels states : Half) (s : State) : Host.Outcome State Fault Refusal :=
  hostCommand (setOutputsFrame seq channels states) s

/-- QUEUE_ACTION (R94, R182). -/
def execQueueAction (seq tag trigger : Byte) (delay : BitVec 32) (channels states : Half) (revert : BitVec 32) (s : State) :
    Host.Outcome State Fault Refusal :=
  hostCommand (queueActionFrame seq tag trigger delay channels states revert) s

/-- CANCEL_ACTION (R103, R183). -/
def execCancelAction (seq tag : Byte) (s : State) : Host.Outcome State Fault Refusal :=
  hostCommand (commandFrame .cancelAction seq [tag]) s

/-- LIST_ACTIONS (R105, R184). -/
def execListActions (seq start : Byte) (s : State) : Host.Outcome State Fault Refusal :=
  hostCommand (commandFrame .listActions seq [start]) s

/-- CONFIGURE_CHANNEL (R32, R185). -/
def execConfigureChannel (seq : Byte) (channels : Half) (record : RecordBytes) (s : State) :
    Host.Outcome State Fault Refusal :=
  hostCommand (configureChannelFrame seq channels record) s

/-- READ_CHANNEL (R187). -/
def execReadChannel (seq channel : Byte) (s : State) : Host.Outcome State Fault Refusal :=
  hostCommand (commandFrame .readChannel seq [channel]) s

/-- CLEAR_FAULTS (R113, R188). -/
def execClearFaults (seq : Byte) (channels : Half) (kinds release : Byte) (s : State) : Host.Outcome State Fault Refusal :=
  hostCommand (clearFaultsFrame seq channels kinds release) s

/-- SET_FILTER (R131, R189). -/
def execSetFilter (seq index enabled : Byte) (kinds channels : Half) (action : Byte) (s : State) :
    Host.Outcome State Fault Refusal :=
  hostCommand (setFilterFrame seq index enabled kinds channels action) s

/-- READ_FILTER (R132, R190). -/
def execReadFilter (seq index clear : Byte) (s : State) : Host.Outcome State Fault Refusal :=
  hostCommand (commandFrame .readFilter seq [index, clear]) s

/-- READ_SNAPSHOT (R155, R191). -/
def execReadSnapshot (seq : Byte) (s : State) : Host.Outcome State Fault Refusal :=
  hostCommand (commandFrame .readSnapshot seq []) s

/-- SET_MODE (R170, R192). -/
def execSetMode (seq timeout auto : Byte) (s : State) : Host.Outcome State Fault Refusal :=
  hostCommand (commandFrame .setMode seq [timeout, auto]) s

/-- SOFT_RESET (R173, R192). -/
def execSoftReset (seq : Byte) (s : State) : Host.Outcome State Fault Refusal :=
  hostCommand (commandFrame .softReset seq []) s

end Sys2Proof.Machine
end

