-- ==== Sys2Proof/Machine/HostLink.lean ====
section
/-! DEFINITION. The Host Link (Chapter 9): the receiver, the routing of valid frames, the transmit arbiter and the control reset, and
the meanings of their happenings. -/

namespace Sys2Proof.Machine

open Sys2Proof

/-! ## The receiver (R159, R160) -/

/-- The start-of-frame byte (TABLE 56). -/
def sofByte : Byte := 0xC3

/-- The most payload bytes of a frame (TABLE 56). -/
def longestPayload : Nat := 60

/-- What a received character does to the receiver (R159, R160): it goes on, it discards the frame it is assembling, or the frame is
valid. -/
inductive RxResult where
  | goesOn (rx : Receiver)
  | discards (reason : RxReason)
  | valid (f : Frame)
  deriving DecidableEq, Repr

/-- The receiver takes a byte that the CRC covers, in a state in which `expected` bytes are then still expected (R159). -/
def Receiver.covers (r : Receiver) (phase : RxPhase) (expected : Nat) (b : Byte) : Receiver :=
  ⟨phase, r.bytes ++ [b], expected, crcByte r.crc b, true⟩

/-- LEN of the frame being assembled, once it has been taken (R159). -/
def Receiver.len (r : Receiver) : Nat := (r.bytes.headD 0).toNat

/-- The frame that the receiver has assembled: SEQ, KIND and the payload of LEN bytes (TABLE 56). -/
def Receiver.frame (r : Receiver) : Frame :=
  ⟨r.bytes.getD 1 0, r.bytes.getD 2 0, (r.bytes.drop 3).take r.len⟩

/-- The character received in HEADER: LEN, then SEQ, then KIND (R159, R160). -/
def Receiver.takeHeader (r : Receiver) (b : Byte) : RxResult :=
  match r.expected with
  | 3 => if longestPayload < b.toNat then .discards .length else .goesOn (r.covers .header 2 b)
  | 2 => .goesOn (r.covers .header 1 b)
  | _ => if 0 < r.len then .goesOn (r.covers .body r.len b) else .goesOn (r.covers .check 2 b)

/-- The character received in BODY: a payload byte (R159). -/
def Receiver.takeBody (r : Receiver) (b : Byte) : RxResult :=
  if 1 < r.expected then .goesOn (r.covers .body (r.expected - 1) b) else .goesOn (r.covers .check 2 b)

/-- The character received in CHECK: a byte of the received CRC; the second is compared with the CRC computed (R159, R160). The
first CRC byte is kept as the last byte of the assembled frame. -/
def Receiver.takeCheck (r : Receiver) (b : Byte) : RxResult :=
  if 1 < r.expected then .goesOn { r with bytes := r.bytes ++ [b], expected := 1, gap := true }
  else if join2 (r.bytes.getLastD 0) b = r.crc then .valid r.frame
  else .discards .crc

/-- The receiver takes a character, whole (R159, R160; DESIGN CHOICE, safe; log entry 13). -/
def Receiver.take (r : Receiver) (ch : RxChar) : RxResult :=
  match r.phase with
  | .hunt =>
    if ch.byte = sofByte ∧ ch.stopError = false then .goesOn ⟨.header, [], 3, 0xFFFF, true⟩ else .goesOn r
  | .header => if ch.stopError then .discards .framing else r.takeHeader ch.byte
  | .body => if ch.stopError then .discards .framing else r.takeBody ch.byte
  | .check => if ch.stopError then .discards .framing else r.takeCheck ch.byte

/-- The receiver takes the values `r`. -/
def State.setReceiver (s : State) (r : Receiver) : State := { s with hlk := { s.hlk with rx := r } }

/-! ## Characters on RXD and TXD (R157) -/

/-- The ten levels of a character on RXD or TXD, in the order of time from bit 0 on (R157): one start bit (low), the eight data bits,
the least significant first, and one stop bit (high). -/
def characterLevels (b : Byte) : BitVec 10 := (1#1) ++ b ++ (0#1)

/-- The character that ten levels on RXD make (R157): none without a start bit; a stop bit sampled low is a stop-bit error. -/
def receivedChar (l : RxLine) : Option RxChar :=
  if l.levels.getLsbD 0 then none else some ⟨l.levels.extractLsb' 1 8, !l.levels.getLsbD 9⟩

/-- The character is a break: all zero bits with a stop-bit error (R157). -/
def isBreak (ch : RxChar) : Bool := decide (ch.byte = 0) && ch.stopError

/-- The character that is received, if one is: after a break none is received until RXD has returned high (R157). -/
def HostLink.receives (h : HostLink) (l : RxLine) : Option RxChar := if h.broken && !l.wasHigh then none else receivedChar l

/-- The character has been received: it is a break or it ends one (R157). -/
def State.noteChar (s : State) (ch : RxChar) : State := { s with hlk := { s.hlk with broken := isBreak ch } }

/-- What the line brings: nothing if no character is received, and otherwise what the character does to the receiver and the state in
which it has been received (R157, R159). -/
def State.hears (s : State) (l : RxLine) : Option (RxResult × State) :=
  (s.hlk.receives l).map fun ch => (s.hlk.rx.take ch, s.noteChar ch)

/-- CHARACTER_RECEIVED (R157, R159): the character neither completes nor breaks a frame. -/
def execCharacterReceived (l : RxLine) (s : State) : Host.Outcome State Fault Refusal :=
  logicHappening true
    (fun s => match s.hears l with
      | some (.goesOn r, t) => t.setReceiver r
      | some (.discards _, _) | some (.valid _, _) | none => s) s

/-- A discard or a drop raises RX_ERROR if the error report flag is armed, and then disarms the flag (R161). -/
def State.rxError (s : State) (reason : RxReason) : State :=
  if s.hlk.errorArmed then
    ({ s with hlk := { s.hlk with errorArmed := false } } : State).raise [.rxError reason]
  else s

/-- The receiver discards the frame it is assembling (R160, R161). -/
def State.discardFrame (s : State) (reason : RxReason) : State := (s.setReceiver Receiver.hunt).rxError reason

/-- RX_FRAME_DISCARD (R157, R160): the character breaks the frame. -/
def execRxFrameDiscard (l : RxLine) (s : State) : Host.Outcome State Fault Refusal :=
  logicHappening true
    (fun s => match s.hears l with
      | some (.discards reason, t) => t.discardFrame reason
      | some (.goesOn _, _) | some (.valid _, _) | none => s) s

/-- RX_GAP_TIMEOUT (R160): the gap timer, which runs outside HUNT, reaches 16 character times. -/
def execRxGapTimeout (s : State) : Host.Outcome State Fault Refusal :=
  logicHappening s.hlk.rx.gap (fun s => s.discardFrame .gap) s

/-! ## Routing valid frames (R162, R163) -/

/-- A frame is accepted: the error report flag is armed (R161). -/
def State.arm (s : State) : State := { s with hlk := { s.hlk with errorArmed := true } }

/-- The number that an ACK frame hands to the Report Unit, or none if its LEN is not 2 (R162). -/
def ackNumber (payload : List Byte) : Option Half :=
  match payload with
  | [a, b] => some (join2 a b)
  | _ => none

/-- The Report Unit takes an ACK (R144). -/
def State.ackTaken (s : State) (n : Half) : State := { s with ru := s.ru.ack s.blc.time n }

/-- A valid ACK frame is accepted (R162): its number goes to the Report Unit at once, and it acts on the host silence timer,
in this order (DESIGN CHOICE, unsafe; log entry 14). -/
def State.takeAck (s : State) (f : Frame) : State :=
  match ackNumber f.payload with
  | some n => (s.arm.ackTaken n).hostHeard
  | none => s.arm.hostHeard

/-- ACK_FRAME_RECEIVED (R162): the character completes a valid frame of KIND 60h. -/
def execAckFrameReceived (l : RxLine) (s : State) : Host.Outcome State Fault Refusal :=
  logicHappening true
    (fun s => match s.hears l with
      | some (.valid f, t) => if f.kind = ackKind then (t.setReceiver Receiver.hunt).takeAck f else s
      | some (.goesOn _, _) | some (.discards _, _) | none => s) s

/-- A valid frame joins the inbound queue (R163): out of silence it sets the silence count to 0 (R170), and during silence it
neither ends the silence nor starts the count (R171). -/
def State.acceptFrame (s : State) (f : Frame) : State :=
  { s with
    hlk := { s.hlk with
      errorArmed := true
      inbound := s.hlk.inbound ++ [f]
      silence := if s.ct.hostSilent then s.hlk.silence else 0 } }

/-- A BUSY notice is made for the dropped frame if at least two places of the response queue are free (R163, R178). -/
def State.busyIfRoom (s : State) (f : Frame) : State :=
  if s.hlk.responses.length ≤ 2 then s.place (busyNotice f) else s

/-- A valid frame finds the inbound queue full (R163): RX_ERROR with reason DROPPED, perhaps a BUSY notice, and the host silence
timer, in this order (DESIGN CHOICE, unsafe; log entry 14). -/
def State.dropFrame (s : State) (f : Frame) : State := ((s.rxError .dropped).busyIfRoom f).hostHeard

/-- A valid frame that is no ACK is offered to the inbound queue (R163). -/
def State.offerFrame (s : State) (f : Frame) : State :=
  if s.hlk.inbound.length < linkPlaces then s.acceptFrame f else s.dropFrame f

/-- COMMAND_FRAME_RECEIVED (R163): the character completes a valid frame that is no ACK. -/
def execCommandFrameReceived (l : RxLine) (s : State) : Host.Outcome State Fault Refusal :=
  placingHappening true
    (fun s => match s.hears l with
      | some (.valid f, t) => if f.kind ≠ ackKind then (t.setReceiver Receiver.hunt).offerFrame f else s
      | some (.goesOn _, _) | some (.discards _, _) | none => s) s

/-! ## The transmit arbiter (R169) -/

/-- The head of the response queue is taken for transmission (R168, R169). -/
def State.sendResponse (s : State) : State :=
  match s.hlk.responses with
  | [] => s
  | t :: rest => { s with hlk := { s.hlk with responses := rest, txd := .sending t, tie := false } }

/-- RESPONSE_TAKEN_FOR_TRANSMISSION (R168, R169). -/
def execResponseTakenForTransmission (s : State) : Host.Outcome State Fault Refusal :=
  logicHappening s.txIdle State.sendResponse s

/-- A frame that answers no command carries the unsolicited frame count as its SEQ, which is then incremented (R158). -/
def HostLink.sendUnsolicited (h : HostLink) (kind : Byte) (payload : List Byte) : HostLink :=
  { h with
    txd := .sending ⟨⟨h.unsolicited, kind, payload⟩, false⟩
    unsolicited := h.unsolicited + 1
    tie := false }

/-- The SNAPSHOT frame is formed from the slot, which is emptied, and the overwrite count is set to 0 (R154). -/
def State.sendSnapshot (s : State) : State :=
  match s.mc.slot with
  | none => s
  | some p =>
    { s with
      mc := { s.mc with slot := none, overwrites := 0 }
      hlk := s.hlk.sendUnsolicited snapshotKind p.bytes }

/-- SNAPSHOT_FRAME_FORMED (R154, R169): TXD is idle and no response waits. -/
def execSnapshotFrameFormed (s : State) : Host.Outcome State Fault Refusal :=
  logicHappening (s.txIdle && s.hlk.responses.isEmpty) State.sendSnapshot s

/-- The REPORT frame is formed from the report queue (R140, R141, R193). -/
def State.sendReport (s : State) : State :=
  { s with
    ru := s.ru.formFrame
    hlk := s.hlk.sendUnsolicited reportKind (reportPayload s.ru.offer) }

/-- A REPORT frame may be taken before the frames of the response queue: none waits, or the response was placed and the REPORT frame
offered at the same moment (R169). -/
def State.reportMayGo (s : State) : Bool := s.hlk.responses.isEmpty || s.hlk.tie

/-- REPORT_FRAME_FORMED (R140, R141, R169): TXD is idle, no snapshot waits, no response goes before it, and the Report Unit has a frame
to offer. -/
def execReportFrameFormed (s : State) : Host.Outcome State Fault Refusal :=
  logicHappening (s.txIdle && s.reportMayGo && s.mc.slot.isNone && decide (0 < s.ru.offered)) State.sendReport s

/-! ## TXD (R157) -/

/-- The characters of the frame on TXD, each as its ten levels: the bytes of the envelope, in the order sent, one after another without
idle time between them (R157, R158); none while TXD is held high. -/
def State.txdCharacters (s : State) : List (BitVec 10) :=
  match s.onTxd with
  | some f => f.bytes.map characterLevels
  | none => []

/-! ## Control reset (R172, R173, R174) -/

/-- A control reset ends (R172): every block of the logic side takes its reset values (TABLE 34, 35, 39, 42, 48, 51, 59), the first
barrier cycle begins with its drive frame (R62, R85), the straps are read, and START is enqueued (R139). The field side, the pins
and the status frames under way are not touched (R61, R70). -/
def State.controlReset (s : State) (cause : ResetCause) (straps : BitVec 2) : State :=
  { s with
    hlk := HostLink.reset straps
    ce := CommandEngine.reset
    ct := ChannelTable.reset s.ct.nstopPin
    aq := []
    ru := ReportUnit.reset cause
    mc := MarkCapture.reset s.mc.pin
    blc := BarrierController.reset
    barrier := { s.barrier with drive := some DriveFrame.first }
    held := none
    lastCause := cause }

/-- The cause that a control reset records (R172). -/
def recordedCause : ResetPin → ResetCause
  | .power => .power
  | .pin => .pin

/-- The cause of a control reset held for `now` when one of cause `next` begins (R172): POWER if VL has been out of its range at
any time during the reset. -/
def heldCause (now : Option ResetPin) (next : ResetPin) : ResetPin :=
  match now, next with
  | some .power, _ => .power
  | _, n => n

/-- A control reset begins (R172): the logic side is held, and TXD is driven high at once, which ends the frame being sent. The
logic side otherwise stays as it was until the reset ends (DESIGN CHOICE, safe; log entry 17). -/
def State.startReset (s : State) (cause : ResetPin) : State :=
  { s with held := some (heldCause s.held cause), hlk := { s.hlk with txd := .idle } }

/-- CONTROL_RESET_START (R172). -/
def execControlResetStart (cause : ResetPin) (s : State) : Host.Outcome State Fault Refusal :=
  happening true (fun s => s.startReset cause) s

/-- CONTROL_RESET_END (R172): the control reset that is held ends. -/
def execControlResetEnd (straps : BitVec 2) (s : State) : Host.Outcome State Fault Refusal :=
  happening true
    (fun s => match s.held with
      | some cause => s.controlReset (recordedCause cause) straps
      | none => s) s

/-- QUIET_TIME_EXPIRY (R172): the arbiter may take frames. -/
def execQuietTimeExpiry (s : State) : Host.Outcome State Fault Refusal :=
  logicHappening (decide (s.hlk.txd = .quiet)) (fun s => { s with hlk := { s.hlk with txd := .idle } }) s

/-- The last stop bit of the frame on TXD is sent (R169): TXD becomes idle; at the end of an executed SOFT_RESET's response the
control reset of cause COMMAND is made and ends at once (R172, R173). -/
def State.completeFrame (s : State) (straps : BitVec 2) : State :=
  match s.hlk.txd with
  | .sending t =>
    if t.endsInReset then s.controlReset .command straps else { s with hlk := { s.hlk with txd := .idle } }
  | .idle | .quiet => s

/-- TRANSMISSION_COMPLETE (R169, R173). -/
def execTransmissionComplete (straps : BitVec 2) (s : State) : Host.Outcome State Fault Refusal :=
  logicHappening true (fun s => s.completeFrame straps) s

end Sys2Proof.Machine
end

