-- ==== Sys2Proof/Machine/Pins.lean ====
section
/-! DEFINITION. The pins of the logic side: NSTOP (R54 to R56) and MARK with Mark Capture (Chapter 8), and the meanings of their
happenings. -/

namespace Sys2Proof.Machine

open Sys2Proof

/-! ## NSTOP -/

/-- The NSTOP filter reaches 5 µs (R54): the recognised level becomes the level of the pin, which is the assertion of R55 or the
release of R56. -/
def State.recogniseStop (s : State) : State :=
  match s.ct.nstopPin with
  | .low => s.assertStop
  | .high => s.releaseStop

/-- NSTOP_FILTER_EXPIRY (R54): the filter runs, and the recognised level becomes the level of the pin. -/
def execNstopFilterExpiry (s : State) : Host.Outcome State Fault Refusal :=
  logicHappening s.ct.nstopFilter State.recogniseStop s

/-- NSTOP_ASSERTION (R55): the filter runs toward LOW, and its end is this happening (DESIGN CHOICE, safe; log entry 12). -/
def execNstopAssertion (s : State) : Host.Outcome State Fault Refusal :=
  logicHappening (s.ct.nstopFilter && decide (s.ct.nstopPin = .low)) State.assertStop s

/-- NSTOP_RELEASE (R56): the filter runs toward HIGH. -/
def execNstopRelease (s : State) : Host.Outcome State Fault Refusal :=
  logicHappening (s.ct.nstopFilter && decide (s.ct.nstopPin = .high)) State.releaseStop s

/-- The NSTOP pin moves to a level: while a control reset is held the pin moves, and no level is recognised (R172). -/
def State.nstopMoves (s : State) (level : Level) : State :=
  { s with ct := if s.runs then s.ct.nstopMoves level else { s.ct with nstopPin := level } }

/-- NSTOP_PIN_CHANGE (R54): the pin leaves the level it had. -/
def execNstopPinChange (level : Level) (s : State) : Host.Outcome State Fault Refusal :=
  happening (decide (s.ct.nstopPin ≠ level)) (fun s => s.nstopMoves level) s

/-! ## MARK: the edge recogniser (R148, R149) -/

/-- The MARK pin goes low (R148). `runs` says that no control reset holds the logic side (R172). -/
def MarkCapture.falls (m : MarkCapture) (runs : Bool) : MarkCapture :=
  { m with
    pin := .low
    recogniser := match m.recogniser with
      | .high => if runs then .filtering else .high
      | .filtering => .filtering
      | .low => .low }

/-- The MARK pin returns high (R148): from FILTERING and from LOW the recogniser returns to HIGH. `runs` says that no control reset
holds the logic side (R172). -/
def MarkCapture.rises (m : MarkCapture) (runs : Bool) : MarkCapture :=
  { m with pin := .high, recogniser := if runs then .high else m.recogniser }

/-- MARK_FALL (R148). -/
def execMarkFall (s : State) : Host.Outcome State Fault Refusal :=
  happening (decide (s.mc.pin = .high)) (fun s => { s with mc := s.mc.falls s.runs }) s

/-- MARK_RISE (R148). -/
def execMarkRise (s : State) : Host.Outcome State Fault Refusal :=
  happening (decide (s.mc.pin = .low)) (fun s => { s with mc := s.mc.rises s.runs }) s

/-- SPACING_TIMER_EXPIRY (R149): the spacing timer stops. -/
def execSpacingTimerExpiry (s : State) : Host.Outcome State Fault Refusal :=
  logicHappening s.mc.spacing (fun s => { s with mc := { s.mc with spacing := false } }) s

/-! ## Snapshots (R150 to R153) -/

/-- The overwrite count that a snapshot takes as it is captured (R151, R153): 0 with automatic reporting off; with it on, the
count as it stands if the slot is empty, and the incremented count, stopping at 255, if the slot holds a snapshot. -/
def MarkCapture.overwriteFor (m : MarkCapture) : Nat :=
  if m.auto then (if m.slot.isSome then min 255 (m.overwrites + 1) else m.overwrites) else 0

/-- The snapshot captured at a recognised edge (R151, TABLE 53). -/
def State.snapshot (s : State) : Snapshot where
  number := s.mc.capture
  time := s.blc.time
  overwrites := s.mc.overwriteFor
  link := s.blc.link
  band := s.ct.band
  demand := s.ct.demand
  protections := s.ct.entries.map fun e => e.mirror.protection
  latched := s.ct.entries.map ChannelEntry.latched

/-- Mark Capture keeps the snapshot as the last one, and with automatic reporting on places it in the slot (R150, R152, R153). -/
def MarkCapture.capturing (m : MarkCapture) (p : Snapshot) : MarkCapture :=
  { m with
    capture := m.capture + 1
    last := some p
    slot := if m.auto then some p else m.slot
    overwrites := if m.auto then p.overwrites else m.overwrites }

/-- A recognised edge (R150): the snapshot is captured, and then the AT_MARK entries are applied (R101). -/
def State.recognisedEdge (s : State) : State :=
  ({ s with mc := s.mc.capturing s.snapshot } : State).applyMarks

/-- The falling edge is complete (R148, R149): the recogniser enters LOW; with the spacing timer running the edge is ignored, and
with it stopped it is recognised and the spacing timer starts. -/
def State.edgeCompletes (s : State) : State :=
  if s.mc.spacing then { s with mc := { s.mc with recogniser := .low } }
  else ({ s with mc := { s.mc with recogniser := .low, spacing := true } } : State).recognisedEdge

/-- MARK_FILTER_EXPIRY (R148, R149): the recogniser is in FILTERING. -/
def execMarkFilterExpiry (s : State) : Host.Outcome State Fault Refusal :=
  logicHappening (decide (s.mc.recogniser = .filtering)) State.edgeCompletes s

end Sys2Proof.Machine
end

