-- ==== Sys2Proof/Machine/Dispatch.lean ====
section
/-! DEFINITION. The dispatch of a command to its meaning: one arm for each row of spec/opcode_table.json. -/

namespace Sys2Proof.Machine

open Sys2Proof

def exec (i : Instr) (s : State) : Host.Outcome State Fault Refusal :=
  match i with
  | .barrierCycleStart first => Sys2Proof.Machine.execBarrierCycleStart first s
  | .goodStatusFrameTaken k => Sys2Proof.Machine.execGoodStatusFrameTaken k s
  | .driveFrameTaken sense => Sys2Proof.Machine.execDriveFrameTaken sense s
  | .watchTimerExpiry => Sys2Proof.Machine.execWatchTimerExpiry s
  | .holdTimerExpiry c => Sys2Proof.Machine.execHoldTimerExpiry c s
  | .supplyResetSilenceExpiry => Sys2Proof.Machine.execSupplyResetSilenceExpiry s
  | .regulationBegins c current => Sys2Proof.Machine.execRegulationBegins c current s
  | .regulationEnds c current => Sys2Proof.Machine.execRegulationEnds c current s
  | .inrushTimerExpiry c current => Sys2Proof.Machine.execInrushTimerExpiry c current s
  | .limitTimerExpiry c => Sys2Proof.Machine.execLimitTimerExpiry c s
  | .settleTimerExpiry c => Sys2Proof.Machine.execSettleTimerExpiry c s
  | .junctionHot reading => Sys2Proof.Machine.execJunctionHot reading s
  | .junctionCool reading => Sys2Proof.Machine.execJunctionCool reading s
  | .cooldownTimerExpiry c => Sys2Proof.Machine.execCooldownTimerExpiry c s
  | .offBlankingExpiry c voltage => Sys2Proof.Machine.execOffBlankingExpiry c voltage s
  | .openThresholdCrossing c current => Sys2Proof.Machine.execOpenThresholdCrossing c current s
  | .openOnQualificationExpiry c => Sys2Proof.Machine.execOpenOnQualificationExpiry c s
  | .openOnCurrentRecovery c current => Sys2Proof.Machine.execOpenOnCurrentRecovery c current s
  | .outputVoltageWindowChange c voltage => Sys2Proof.Machine.execOutputVoltageWindowChange c voltage s
  | .openOffQualificationExpiry c => Sys2Proof.Machine.execOpenOffQualificationExpiry c s
  | .openOffClearingExpiry c => Sys2Proof.Machine.execOpenOffClearingExpiry c s
  | .shortSupplyQualificationExpiry c => Sys2Proof.Machine.execShortSupplyQualificationExpiry c s
  | .shortSupplyClearingExpiry c => Sys2Proof.Machine.execShortSupplyClearingExpiry c s
  | .vfCandidateChange vf => Sys2Proof.Machine.execVfCandidateChange vf s
  | .supplyFilterExpiry voltages => Sys2Proof.Machine.execSupplyFilterExpiry voltages s
  | .fieldDieStop vf => Sys2Proof.Machine.execFieldDieStop vf s
  | .fieldResetSupply sense => Sys2Proof.Machine.execFieldResetSupply sense s
  | .atTimeEntriesDue => Sys2Proof.Machine.execAtTimeEntriesDue s
  | .holdCountdownExpiry c => Sys2Proof.Machine.execHoldCountdownExpiry c s
  | .nstopAssertion => Sys2Proof.Machine.execNstopAssertion s
  | .nstopRelease => Sys2Proof.Machine.execNstopRelease s
  | .markFall => Sys2Proof.Machine.execMarkFall s
  | .markRise => Sys2Proof.Machine.execMarkRise s
  | .markFilterExpiry => Sys2Proof.Machine.execMarkFilterExpiry s
  | .spacingTimerExpiry => Sys2Proof.Machine.execSpacingTimerExpiry s
  | .nstopFilterExpiry => Sys2Proof.Machine.execNstopFilterExpiry s
  | .ackFrameReceived line => Sys2Proof.Machine.execAckFrameReceived line s
  | .commandFrameReceived line => Sys2Proof.Machine.execCommandFrameReceived line s
  | .rxFrameDiscard line => Sys2Proof.Machine.execRxFrameDiscard line s
  | .rxGapTimeout => Sys2Proof.Machine.execRxGapTimeout s
  | .commandTaken => Sys2Proof.Machine.execCommandTaken s
  | .ping seq => Sys2Proof.Machine.execPing seq s
  | .readStatus seq => Sys2Proof.Machine.execReadStatus seq s
  | .setOutputs seq channels states => Sys2Proof.Machine.execSetOutputs seq channels states s
  | .queueAction seq tag trigger delay channels states revert => Sys2Proof.Machine.execQueueAction seq tag trigger delay channels states revert s
  | .cancelAction seq tag => Sys2Proof.Machine.execCancelAction seq tag s
  | .listActions seq start => Sys2Proof.Machine.execListActions seq start s
  | .configureChannel seq channels record => Sys2Proof.Machine.execConfigureChannel seq channels record s
  | .readChannel seq channel => Sys2Proof.Machine.execReadChannel seq channel s
  | .clearFaults seq channels kinds release => Sys2Proof.Machine.execClearFaults seq channels kinds release s
  | .setFilter seq index enabled kinds channels action => Sys2Proof.Machine.execSetFilter seq index enabled kinds channels action s
  | .readFilter seq index clear => Sys2Proof.Machine.execReadFilter seq index clear s
  | .readSnapshot seq => Sys2Proof.Machine.execReadSnapshot seq s
  | .setMode seq timeout auto => Sys2Proof.Machine.execSetMode seq timeout auto s
  | .softReset seq => Sys2Proof.Machine.execSoftReset seq s
  | .waitTimerExpiry => Sys2Proof.Machine.execWaitTimerExpiry s
  | .silenceTimeout => Sys2Proof.Machine.execSilenceTimeout s
  | .retransmissionTimerExpiry => Sys2Proof.Machine.execRetransmissionTimerExpiry s
  | .responseTakenForTransmission => Sys2Proof.Machine.execResponseTakenForTransmission s
  | .snapshotFrameFormed => Sys2Proof.Machine.execSnapshotFrameFormed s
  | .reportFrameFormed => Sys2Proof.Machine.execReportFrameFormed s
  | .transmissionComplete straps => Sys2Proof.Machine.execTransmissionComplete straps s
  | .controlResetStart cause => Sys2Proof.Machine.execControlResetStart cause s
  | .controlResetEnd straps => Sys2Proof.Machine.execControlResetEnd straps s
  | .quietTimeExpiry => Sys2Proof.Machine.execQuietTimeExpiry s
  | .characterReceived line => Sys2Proof.Machine.execCharacterReceived line s
  | .nstopPinChange level => Sys2Proof.Machine.execNstopPinChange level s

end Sys2Proof.Machine
end

