-- ==== Sys2Proof/Machine/Step.lean ====
section
/-! DEFINITION. One step of the part: the command at the front of the queue of commands waiting is taken. -/

namespace Sys2Proof.Machine

open Sys2Proof

/-- The step: the command at the front of the queue is taken with the queue's rest; on an empty queue the part idles
(DESIGN CHOICE, safe; log entry 5). -/
def step (s : State) : Host.Outcome State Fault Refusal :=
  match s.pending with
  | [] => .next s
  | c :: rest => exec c { s with pending := rest }

/-- The state with the command that a word spells by the table's bits put at the front of its queue; the table gives no row any
bits, so no word spells one and the state is unchanged (Decode.lean). -/
def State.withFetchWord (s : State) (nbits w : Nat) : State :=
  match decodeTableWord nbits w with
  | some c => { s with pending := c :: s.pending }
  | none => s

end Sys2Proof.Machine
end

