-- ==== Sys2Proof/Safety.lean ====
section
/-! DEFINITION. What counts as a safe state of the OC-12, block by block, in the terms that claims use: each property is one that the
manual states of the part at all times, beside the few facts about timers and counts that make it hold from step to step. And the
frames: which part of the state two states share. -/

namespace Sys2Proof.Machine

open Sys2Proof

/-! ## Frames -/

/-- The two states differ at most in the field side. -/
def OnlyField (s t : State) : Prop := { t with field := s.field } = s

/-- The two states differ at most in the field side and in the frames under way: nothing of the logic side, of its pins or of the
commands waiting differs. -/
def OnlyFieldAndBarrier (s t : State) : Prop := { t with field := s.field, barrier := s.barrier } = s

/-- The two states differ at most in the Report Unit. -/
def OnlyReports (s t : State) : Prop := { t with ru := s.ru } = s

/-- The two field sides differ at most in channel `c`. -/
def OnlyChannel (c : Chan) (f g : FieldSide) : Prop :=
  { g with channels := f.channels } = f ∧ ∀ c', c' ≠ c → g.channels.get c' = f.channels.get c'

/-- The two field sides differ at most in the supervisor of channel `c`. -/
def OnlySupervisor (c : Chan) (f g : FieldSide) : Prop :=
  OnlyChannel c f g ∧
    ({ g.channels.get c with supervisor := (f.channels.get c).supervisor } : FieldChannel) = f.channels.get c

/-- The state in which the supervisor of channel `c` of the running field side `f` has become `w`, and nothing else has changed. -/
def State.withSupervisor (s : State) (f : FieldSide) (c : Chan) (w : Supervisor) : State :=
  { s with field := some { f with channels := f.channels.set c { f.channels.get c with supervisor := w } } }

/-- The commands that are happenings of the field die (TABLE 1, TABLE 11, Chapter 3, Section 4.2): the others are happenings of the
logic side and of its pins. -/
def onFieldDie : Instr → Bool
  | .driveFrameTaken _ | .watchTimerExpiry | .holdTimerExpiry _ | .supplyResetSilenceExpiry | .regulationBegins _ _
  | .regulationEnds _ _ | .inrushTimerExpiry _ _ | .limitTimerExpiry _ | .settleTimerExpiry _ | .junctionHot _
  | .junctionCool _ | .cooldownTimerExpiry _ | .offBlankingExpiry _ _ | .openThresholdCrossing _ _
  | .openOnQualificationExpiry _ | .openOnCurrentRecovery _ _ | .outputVoltageWindowChange _ _
  | .openOffQualificationExpiry _ | .openOffClearingExpiry _ | .shortSupplyQualificationExpiry _
  | .shortSupplyClearingExpiry _ | .vfCandidateChange _ | .supplyFilterExpiry _ | .fieldDieStop _
  | .fieldResetSupply _ => true
  | .barrierCycleStart _ | .goodStatusFrameTaken _ | .atTimeEntriesDue | .holdCountdownExpiry _ | .nstopAssertion
  | .nstopRelease | .markFall | .markRise | .markFilterExpiry | .spacingTimerExpiry | .nstopFilterExpiry
  | .ackFrameReceived _ | .commandFrameReceived _ | .rxFrameDiscard _ | .rxGapTimeout | .commandTaken | .ping _
  | .readStatus _ | .setOutputs _ _ _ | .queueAction _ _ _ _ _ _ _ | .cancelAction _ _ | .listActions _ _
  | .configureChannel _ _ _ | .readChannel _ _ | .clearFaults _ _ _ _ | .setFilter _ _ _ _ _ _ | .readFilter _ _ _
  | .readSnapshot _ | .setMode _ _ _ | .softReset _ | .waitTimerExpiry | .silenceTimeout | .retransmissionTimerExpiry
  | .responseTakenForTransmission | .snapshotFrameFormed | .reportFrameFormed | .transmissionComplete _
  | .controlResetStart _ | .controlResetEnd _ | .quietTimeExpiry | .characterReceived _ | .nstopPinChange _ => false

/-! ## The outcomes at a Channel Supervisor, written out -/

/-- The supervisor in ON with the current at `current`, as a channel enters it (R7, R18): no regulation, the settle timer running from
zero, and the OPEN_ON timer running if the enable is set and the current is below the threshold. -/
def Supervisor.inOn (v : Supervisor) (current : Nat) : Supervisor :=
  { v with
    protection := .on, inRegulation := false, inrush := none, limitTimer := false, settleTimer := true, openOn := false,
    openOnTimer :=
      if v.record.openOnEnable = true ∧ current < v.record.openThreshold.current then some v.record.openQualification
      else none }

/-- The supervisor in LIMITING, as a channel enters it (R7, R19): in regulation, with the limit timer running from zero. -/
def Supervisor.inLimiting (v : Supervisor) : Supervisor :=
  { v with
    protection := .limiting, inRegulation := true, inrush := none, limitTimer := true, settleTimer := false,
    openOn := false, openOnTimer := none }

/-- The supervisor after a trip that opens its switch (R10, R12, R20), with the occurrence counters `counters`: COOLDOWN with one
retry more and the cooldown timer at the retry delay below the budget, and LOCKED at it. -/
def Supervisor.tripped (v : Supervisor) (counters : PerKind Occurrences) : Supervisor :=
  { v with
    protection := if v.retry < v.record.retryBudget then .cooldown else .locked
    retry := if v.retry < v.record.retryBudget then v.retry + 1 else v.retry
    cooldown := if v.retry < v.record.retryBudget then .running v.record.retryDelay else .stopped
    inRegulation := false, inrush := none, limitTimer := false, settleTimer := false, blanking := .running,
    openOn := false, openOnTimer := none, counters := counters }

/-- The supervisor after a trip at a start (R4): as after any trip of cause OVERTEMP, but that the switch did not open: the
off-blanking timer and the detectors go on as they were. -/
def Supervisor.trippedAtStart (v : Supervisor) : Supervisor :=
  { v with
    protection := if v.retry < v.record.retryBudget then .cooldown else .locked
    retry := if v.retry < v.record.retryBudget then v.retry + 1 else v.retry
    cooldown := if v.retry < v.record.retryBudget then .running v.record.retryDelay else .stopped
    counters := { v.counters with overtemp := v.counters.overtemp + 1 } }

/-- The supervisor after a closing of its switch (R4, R12, R20, R22, R23): STARTING with the inrush timer at the allowance, or ON with an
allowance of 0; the load current starts from 0 (log entry 7). -/
def Supervisor.closedNow (v : Supervisor) : Supervisor :=
  let w : Supervisor :=
    { v with blanking := .stopped, cooldown := .stopped, openOff := ⟨false, false, false⟩, shortSupply := ⟨false, false, false⟩ }
  if v.record.inrush = 0 then w.inOn 0 else { w with protection := .starting, inrush := some v.record.inrush }

/-- The supervisor after its effective demand has become OFF (R13, R14, R20). -/
def Supervisor.switchedOff (v : Supervisor) : Supervisor :=
  match v.protection with
  | .starting | .on | .limiting =>
    { v with
      protection := .off, retry := 0, inRegulation := false, inrush := none, limitTimer := false, settleTimer := false,
      blanking := .running, openOn := false, openOnTimer := none }
  | .cooldown => { v with protection := .off, retry := 0, cooldown := .stopped }
  | .off | .locked => v

/-- The supervisor after its effective demand has become ON, or after a start of a channel freed by a release (R4, R14). -/
def Supervisor.switchedOn (v : Supervisor) : Supervisor :=
  match v.protection with
  | .off => if v.hot then v.trippedAtStart else v.closedNow
  | .starting | .on | .limiting | .cooldown | .locked => v

/-- The channel with the effective demand `d` (R50): a change is handed to the supervisor whole, and a value formed again without
change hands it nothing. -/
def FieldChannel.demanded (ch : FieldChannel) (d : Bool) : FieldChannel :=
  if ch.effective = d then ch
  else { ch with effective := d, supervisor := if d then ch.supervisor.switchedOn else ch.supervisor.switchedOff }

/-- The effective demand of channel `c` that TABLE 26 gives: OFF in WAITING and in DROPOUT, the received demand in ACTIVE unless the
received stop flag is set, and ON in SAFE while the channel's hold runs. -/
def tableDemand (mode : FieldMode) (band : Band) (received : ChanSet) (stop : Bool) (hold : Option Nat) (c : Chan) : Bool :=
  match mode with
  | .waiting => false
  | .active => decide (received.getLsbD c.val = true ∧ stop = false ∧ band ≠ .dropout)
  | .safe => decide (hold.isSome = true ∧ band ≠ .dropout)

/-- The channel after it has taken the release token `t` (R15, R68): a token that differs is recorded and makes one release, which frees
a LOCKED channel with a retry count of 0 and starts it if its effective demand is ON. -/
def FieldChannel.released (ch : FieldChannel) (t : Token) : FieldChannel :=
  if ch.token = t then ch
  else
    { ch with
      token := t
      supervisor :=
        match ch.supervisor.protection with
        | .locked =>
          if ch.effective then ({ ch.supervisor with protection := .off, retry := 0 } : Supervisor).switchedOn
          else { ch.supervisor with protection := .off, retry := 0 }
        | .off | .starting | .on | .limiting | .cooldown => ch.supervisor }

/-- The state in which the field side has become `g` and has sent the status frame that shows it, the drive frame under way being
`drive`; nothing else has changed (R64). -/
def State.answersStatus (s : State) (g : FieldSide) (drive : Option DriveFrame) : State :=
  { s with
    field := some g
    barrier := { drive := drive, status := s.barrier.status ++ [g.statusFrame], late := s.barrier.late } }

/-! ## The values after a reset -/

/-- The values of the logic side right after a control reset of cause `cause` whose straps read `straps` (TABLES 34, 35, 39, 42, 46, 48,
51 and 59; R42, R61, R82, R85, R108, R126, R139, R147, R156, R172). The values of `broken` and `tie` are the model's (log entries 13
and 24). -/
structure AfterControlReset (t : State) (cause : ResetCause) (straps : BitVec 2) : Prop where
  released : t.held = none
  lastCause : t.lastCause = cause
  time : t.blc.time = 0
  link : t.blc.link = .syncing
  counts : t.blc.quality = 0 ∧ t.blc.misses = 0 ∧ t.blc.sync = 0
  noFrame : t.blc.goodTaken = false
  flags : t.blc.controlBoot = true ∧ t.blc.fieldBootSeen = false ∧ t.blc.mirrorBoot = false
  mirrorMode : t.blc.mirrorMode = .waiting
  slotPointer : t.blc.slotPointer = 11
  demand : t.ct.demand = 0
  band : t.ct.band = .dropout
  disarmed : t.ct.armed = false
  nstop : t.ct.nstop = .high ∧ t.ct.nstopFilter = decide (t.ct.nstopPin = .low)
  heard : t.ct.hostSilent = false
  record : ∀ c : Chan, (t.ct.entries.get c).record =
    ⟨.mid, 0, 10, 3, .ma10, .ms6, true, false, true, .off, 10⟩
  generation : ∀ c : Chan, (t.ct.entries.get c).generation = 0 ∧ (t.ct.entries.get c).pending = false ∧
    (t.ct.entries.get c).doubt = 0 ∧ (t.ct.entries.get c).held = false
  token : ∀ c : Chan, (t.ct.entries.get c).token = 0 ∧ (t.ct.entries.get c).mirror.token = 0
  mirror : ∀ c : Chan, (t.ct.entries.get c).mirror.protection = .off ∧ (t.ct.entries.get c).mirror.retry = 0 ∧
    (t.ct.entries.get c).mirror.applied = none
  faults : ∀ (c : Chan) (k : FaultKind), (t.ct.entries.get c).latched.get k = false ∧
    (t.ct.entries.get c).baseline.get k = 0 ∧ (t.ct.entries.get c).mirror.conditions.get k = false ∧
    (t.ct.entries.get c).mirror.counters.get k = 0
  countdown : ∀ c : Chan, (t.ct.entries.get c).countdown = none
  queue : t.aq = []
  reports : t.ru.queue = [⟨0, 0, .start cause, .new⟩] ∧ t.ru.next = 1 ∧ t.ru.loss = 0 ∧ t.ru.timer = none
  filters : ∀ i : Fin 8, t.ru.filter.get i = ⟨false, 0, 0, false, .report, 0⟩
  mark : t.mc.recogniser = (if t.mc.pin = .high then .high else .low) ∧ t.mc.spacing = false ∧ t.mc.capture = 0 ∧
    t.mc.last = none ∧ t.mc.auto = false ∧ t.mc.slot = none ∧ t.mc.overwrites = 0
  receiver : t.hlk.rx.phase = .hunt ∧ t.hlk.rx.gap = false ∧ t.hlk.broken = false ∧ t.hlk.errorArmed = true
  queues : t.hlk.inbound = [] ∧ t.hlk.responses = [] ∧ t.hlk.txd = .quiet ∧ t.hlk.tie = false ∧ t.hlk.unsolicited = 0
  silence : t.hlk.timeout = 0 ∧ t.hlk.silence = 0
  rate : t.hlk.rate = straps
  engine : t.ce.engine = .idle ∧ t.ce.cache = none
  firstFrame : t.barrier.drive = some ⟨0, true, false, false, false, 0, Table.all 0, none⟩

/-- The values of the field side right after a field reset (TABLES 15, 22, 24 and 31; R27, R43, R46, R53, R69), with the junctions and VF
as `sense` has them. -/
structure AfterFieldReset (f : FieldSide) (cause : FieldCause) (cycle : Byte) (sense : FieldSense) : Prop where
  mode : f.mode = .waiting
  boot : f.boot = true
  lastCause : f.cause = cause
  received : f.received = 0 ∧ f.stop = false
  misses : f.misses = 0
  number : f.cycle = cycle
  watch : f.watch = (if cause = .supply then none else some 60) ∧ f.silent = decide (cause = .supply)
  band : f.band = .dropout
  candidate : f.candidate =
    (if sense.vf ≤ 14000 then .dropout else if sense.vf ≤ 18500 then .low else .normal)
  filter : f.filterTimer = decide (14000 < sense.vf)
  demand : ∀ c : Chan, (f.channels.get c).effective = false ∧ (f.channels.get c).hold = none ∧
    (f.channels.get c).token = 0 ∧ (f.channels.get c).applied = none
  supervisor : ∀ c : Chan, (f.channels.get c).supervisor =
    { protection := .off, retry := 0, hot := decide (160000 ≤ (sense.loads.get c).junction), inRegulation := false,
      inrush := none, limitTimer := false, settleTimer := false, cooldown := .stopped, blanking := .running,
      openOnTimer := none, openOn := false, openOff := ⟨false, false, false⟩, shortSupply := ⟨false, false, false⟩,
      counters := ⟨0, 0, 0, 0, 0⟩, record := ⟨.mid, 0, 10, 3, .ma10, .ms6, true, false, true, .off, 10⟩ }

/-! ## The receiver over a run of bytes -/

/-- The receiver after it has gone on through the bytes, or none if one of them made it discard a frame or completed one (R159). -/
def Receiver.feed (r : Receiver) : List Byte → Option Receiver
  | [] => some r
  | b :: rest =>
    match r.take ⟨b, false⟩ with
    | .goesOn r' => r'.feed rest
    | .discards _ | .valid _ => none

/-! ## Applying entries of the Action Queue -/

/-- The demand `demand` after the entries `as` have written their states one after another (R97, R98, R101). -/
def demandAfter (demand : ChanSet) (as : List Action) : ChanSet :=
  as.foldl (fun d a => (d &&& ~~~a.channels) ||| (a.states &&& a.channels)) demand

/-- The time remaining of an AT_TIME entry (R92, R93), 0 once its due time is reached; none for an AT_MARK entry. -/
def Action.timeLeft (now : PartTime) (a : Action) : Option Nat :=
  match a.trigger with
  | .atTime d => some (if (now - d).toNat < 2147483648 then 0 else (d - now).toNat)
  | .atMark => none

/-- The queue is in queue order (R92): the AT_TIME entries first, the time remaining never falling from one to the next. -/
def InQueueOrder (now : PartTime) (q : List Action) : Prop :=
  q.Pairwise fun a b => ∀ m, b.timeLeft now = some m → ∃ n ≤ m, a.timeLeft now = some n

/-- The REVERT entry of an entry `b` with the revert delay `r`, applied at part time `now` when the demand stood at `before` (R99). -/
def revertMade (b : Action) (r now : PartTime) (before : ChanSet) : Action :=
  ⟨b.tag, .revert, .atTime (now + r), b.channels, before &&& b.channels, none⟩

/-- What the application of the entries `as`, one after another at part time `now` and with the demand at `demand` before the first
of them, leaves of the queue `q` (R92, R97 to R101). -/
structure AfterApplying (now : PartTime) (demand : ChanSet) (as q q' : List Action) : Prop where
  /-- The entries that are not applied stay, in the order in which they stood. -/
  kept : (q'.filter fun a => decide (a ∈ q)) = q.filter fun a => decide (a ∉ as)
  /-- A MAIN entry with a revert delay leaves its REVERT entry, which carries the states that stood immediately before it, and which
  stands among the AT_TIME entries behind each whose time remaining is not longer. -/
  reverts : ∀ (xs ys : List Action) (b : Action) (r : PartTime), as = xs ++ b :: ys → b.phase = .main → b.revert = some r →
    ∃ front back, q' = front ++ revertMade b r now (demandAfter demand xs) :: back ∧
      (∀ x ∈ front, ∃ n ≤ r.toNat, x.timeLeft now = some n) ∧
      (InQueueOrder now q → ∀ x ∈ back, ∀ n, x.timeLeft now = some n →
        r.toNat < n ∨ (n = r.toNat ∧ x.phase = .revert ∧ ∃ c ∈ ys, c.tag = x.tag))
  /-- Nothing else joins the queue. -/
  only : ∀ a ∈ q', a ∉ q → ∃ (xs ys : List Action) (b : Action) (r : PartTime), as = xs ++ b :: ys ∧ b.phase = .main ∧
    b.revert = some r ∧ a = revertMade b r now (demandAfter demand xs)
  /-- Queue order is kept. -/
  order : InQueueOrder now q → InQueueOrder now q'
  /-- Each application frees one place, the REVERT entry standing where the reservation stood (R91, R98). -/
  places : placesTaken q' + as.length = placesTaken q

/-! ## A command of the host that is taken -/

/-- The Command Engine takes the frame `f` out of host silence, and the reply cache does not hold it (R164, R165): the logic side
runs, the Command Engine is IDLE, the response queue has a free place and `f` is at the head of the inbound queue. -/
structure State.Takes (s : State) (f : Frame) : Prop where
  runs : s.runs = true
  idle : s.ce.engine = .idle
  room : s.hlk.responses.length < 4
  head : s.hlk.inbound.head? = some f
  heard : s.ct.hostSilent = false
  fresh : ∀ r, s.ce.cache = some r → ¬(r.seq = f.seq ∧ r.crc = f.crc)

/-- The state in which the frame `f` has been taken from the inbound queue and answered with a status and contents (R164, R165, R167,
R176): the response is at the tail of the response queue and in the reply cache, and nothing else has changed. -/
def State.answered (s : State) (f : Frame) (status : Status) (contents : List Byte) : State :=
  { s with
    hlk := { s.hlk with
      inbound := s.hlk.inbound.tail
      responses := s.hlk.responses ++ [⟨⟨f.seq, responseKind f.kind, status.code :: contents⟩, false⟩] }
    ce := ⟨.idle, some ⟨f.seq, f.crc, ⟨f.seq, responseKind f.kind, status.code :: contents⟩⟩⟩ }

/-- The state in which the frame `f` has been taken from the inbound queue and its command waits for `a` (R165, R166), and nothing else
has changed. -/
def State.waitsFor (s : State) (f : Frame) (a : Awaited) : State :=
  { s with
    hlk := { s.hlk with inbound := s.hlk.inbound.tail }
    ce := { s.ce with engine := .waiting ⟨f, a, 0⟩ } }

/-- The frame that a row which names a host command takes from the inbound queue (TABLE 69), or none for the other rows. -/
def commandRow : Instr → Option Frame
  | .ping seq => some (commandFrame .ping seq [])
  | .readStatus seq => some (commandFrame .readStatus seq [])
  | .setOutputs seq m st => some (setOutputsFrame seq m st)
  | .queueAction seq tag trigger delay m st revert => some (queueActionFrame seq tag trigger delay m st revert)
  | .cancelAction seq tag => some (commandFrame .cancelAction seq [tag])
  | .listActions seq start => some (commandFrame .listActions seq [start])
  | .configureChannel seq m r => some (configureChannelFrame seq m r)
  | .readChannel seq c => some (commandFrame .readChannel seq [c])
  | .clearFaults seq m kinds release => some (clearFaultsFrame seq m kinds release)
  | .setFilter seq i en kinds m a => some (setFilterFrame seq i en kinds m a)
  | .readFilter seq i c => some (commandFrame .readFilter seq [i, c])
  | .readSnapshot seq => some (commandFrame .readSnapshot seq [])
  | .setMode seq timeout auto => some (commandFrame .setMode seq [timeout, auto])
  | .softReset seq => some (commandFrame .softReset seq [])
  | _ => none

/-! ## Configuration records -/

/-- The record is one of TABLE 17: each field within its values (R28). -/
structure ConfigRecord.Valid (r : ConfigRecord) : Prop where
  inrush : r.inrush ≤ 25
  retryDelay : 1 ≤ r.retryDelay ∧ r.retryDelay ≤ 50
  retryBudget : r.retryBudget ≤ 15
  holdTime : 1 ≤ r.holdTime ∧ r.holdTime ≤ 100

/-! ## The field side -/

/-- An off-state detector is sound (R22, R23, R25; log entry 28): disabled, its condition is absent and its timers are stopped; its qualification
timer runs only while the detector runs with the condition absent, and its clearing timer only while it runs with the condition
present. -/
structure OffDetector.Sound (d : OffDetector) (enable runs : Bool) : Prop where
  disabled : enable = false → d = OffDetector.reset
  qualifying : d.qualifying = true → runs = true ∧ d.present = false
  clearing : d.clearing = true → runs = true ∧ d.present = true

/-- A Channel Supervisor is sound with the effective demand `effective` in the band `band`. -/
structure Supervisor.Sound (v : Supervisor) (effective : Bool) (band : Band) : Prop where
  /-- "A channel is in STARTING, ON or LIMITING only while its effective demand is ON" (R13). -/
  closed_demanded : v.protection.closed = true → effective = true
  /-- "A channel in COOLDOWN always has its effective demand ON" (R12). -/
  cooldown_demanded : v.protection = .cooldown → effective = true
  /-- "A channel's retry count is never greater than the retry budget of its active configuration" (R11). -/
  retry_le : v.retry ≤ v.record.retryBudget
  /-- In LOCKED the retry count is the budget, or 0 after a record has been applied (R11, R14). -/
  locked_retry : v.protection = .locked → v.retry = v.record.retryBudget ∨ v.retry = 0
  /-- "Every record that reaches the field side is therefore a record of TABLE 17" (R28). -/
  record_valid : v.record.Valid
  /-- Regulation ends when the switch opens (R2). -/
  regulation_closed : v.inRegulation = true → v.protection.closed = true
  /-- A channel in LIMITING is in regulation at the class limit (R7, R8). -/
  limiting_regulates : v.protection = .limiting → v.inRegulation = true
  /-- A channel in ON that enters regulation passes into LIMITING (R7). -/
  on_free : v.protection = .on → v.inRegulation = false
  /-- The limit timer runs exactly while the channel is in regulation (R6, R8). -/
  limit_timer : v.limitTimer = v.inRegulation
  /-- The inrush timer runs exactly in STARTING (R4, R5). -/
  inrush_timer : v.inrush.isSome = decide (v.protection = .starting)
  /-- The settle timer runs in ON alone (R7). -/
  settle_timer : v.settleTimer = true → v.protection = .on
  /-- The cooldown timer runs or has elapsed exactly in COOLDOWN (R12, R13). -/
  cooldown_timer : v.cooldown = .stopped ↔ v.protection ≠ .cooldown
  /-- An elapsed cooldown waits for the flag to become COOL (R12). -/
  elapsed_hot : v.cooldown = .elapsed → v.hot = true
  /-- The OPEN_ON timer runs in ON alone, with the enable set and the condition absent (R18). -/
  open_on_timer : v.openOnTimer.isSome = true →
    v.protection = .on ∧ v.record.openOnEnable = true ∧ v.openOn = false
  /-- The OPEN_ON condition is present in ON alone, with the enable set (R19). -/
  open_on : v.openOn = true → v.protection = .on ∧ v.record.openOnEnable = true
  /-- A closing of the switch stops the off-blanking timer, and an opening starts it (R20). -/
  blanking_timer : v.blanking = .stopped ↔ v.protection.closed = true
  /-- With the switch closed the off-state conditions are absent and their timers stopped (R22, R23). -/
  closed_detectors : v.protection.closed = true →
    v.openOff = OffDetector.reset ∧ v.shortSupply = OffDetector.reset
  open_off : v.openOff.Sound v.record.openOffEnable (offDetectorsRun v band)
  short_supply : v.shortSupply.Sound v.record.shortSupplyEnable (offDetectorsRun v band)

/-- The field side is sound. -/
structure FieldSide.Sound (f : FieldSide) : Prop where
  supervisors : ∀ c : Chan,
    (f.channels.get c).supervisor.Sound (f.channels.get c).effective f.band
  /-- The effective demand of every channel is the one that TABLE 26 gives (R50, R51). -/
  effective : ∀ c : Chan, (f.channels.get c).effective = formedDemand f c
  /-- A hold runs in SAFE alone, out of DROPOUT, and with the received stop flag clear (R51, R52). -/
  holds : ∀ c : Chan, (f.channels.get c).hold.isSome = true → f.mode = .safe ∧ f.band ≠ .dropout ∧ f.stop = false
  /-- A field side whose field boot flag is set is in WAITING (R78). -/
  boot_waiting : f.boot = true → f.mode = .waiting
  /-- In ACTIVE the fourth consecutive miss enters SAFE (R48, R66). -/
  active_misses : f.mode = .active → f.misses < 4
  misses_le : f.misses ≤ 255
  /-- The watch timer runs but in the silence after a field reset of cause SUPPLY (R69). -/
  watch_timer : f.watch = none ↔ f.silent = true
  /-- The supply filter runs while the candidate differs from the band in force (R45). -/
  filter_timer : f.filterTimer = decide (f.candidate ≠ f.band)

/-- The field side of the part is sound whenever the field die runs, and the drive frame under way carries a record of TABLE 17 if it
carries one (R28). -/
structure State.FieldSound (s : State) : Prop where
  running : ∀ f, s.field = some f → f.Sound
  slot : ∀ d, s.barrier.drive = some d → ∀ x, d.slot = some x → x.record.Valid
  configured : ∀ c : Chan, (s.ct.entries.get c).record.Valid

/-! ## The Report Unit -/

/-- The place of a delivery state in the queue: the SENT run, the RESEND run, the NEW run (R135). -/
def Delivery.rank : Delivery → Nat
  | .sent => 0
  | .resend => 1
  | .new => 2

/-- The Report Unit is sound. -/
structure ReportUnit.Sound (u : ReportUnit) : Prop where
  /-- "The report queue holds at most 32 records" (R134). -/
  length_le : u.queue.length ≤ 32
  /-- "with consecutive sequence numbers increasing from oldest to newest" (R134): the newest record has the number before the next
  one, and each older record one less. -/
  numbered : ∀ i (h : i < u.queue.length), u.queue[i].seq = u.next - BitVec.ofNat 16 (u.queue.length - i)
  /-- "the pending loss is greater than 0 only while the queue holds 32 records" (R134). -/
  loss_full : 0 < u.loss → u.queue.length = 32
  /-- "first the SENT records, then the RESEND records, then the NEW records" (R135). -/
  runs : u.queue.Pairwise fun a b => a.delivery.rank ≤ b.delivery.rank
  /-- "At most 8 report records are in state SENT" (R135). -/
  window : u.countIn .sent ≤ 8
  /-- The retransmission timer runs while at least one record is in SENT (R142). -/
  timer_runs : u.timer.isSome = u.queue.any ReportRecord.isSent
  timer_le : ∀ n, u.timer = some n → n ≤ 1000
  /-- The lost count of an OVERFLOW record is 1 to 65,535 (TABLE 43). -/
  lost_count : ∀ r ∈ u.queue, ∀ n, r.event = .overflow n → 1 ≤ n ∧ n ≤ 65535

/-! ## The Action Queue -/

/-- An entry has the form of TABLE 38 (R90). -/
structure Action.Formed (a : Action) : Prop where
  tag : a.tag ≠ 0
  channels : a.channels ≠ 0
  /-- "An entry holds a state for each channel of its set and for no other." -/
  states : a.states &&& ~~~a.channels = 0
  /-- A REVERT entry is AT_TIME and has no revert delay. -/
  revert : a.phase = .revert → a.isMark = false ∧ a.revert = none
  delay : ∀ d, a.revert = some d → 1 ≤ d.toNat ∧ d.toNat ≤ 200000

/-- The Action Queue is sound. -/
structure QueueSound (q : List Action) : Prop where
  /-- "The Action Queue's entries plus its reservations never number more than 16" (R91). -/
  places : placesTaken q ≤ 16
  /-- "no two of its entries carry the same tag" (R91). -/
  tags : q.Pairwise fun a b => a.tag ≠ b.tag
  formed : ∀ a ∈ q, a.Formed
  /-- The AT_TIME entries come first, and the AT_MARK entries follow (R92). -/
  marks_last : q.Pairwise fun a b => a.isMark = true → b.isMark = true

/-! ## Stop, silence and demand -/

/-- The stop and silence state is sound. -/
structure State.DemandSound (s : State) : Prop where
  /-- "While NSTOP is recognised low, every channel's demand in the Channel Table is OFF and the action queue holds no entry and no
  reservation" (R55). -/
  stopped : s.ct.nstop = .low → s.ct.demand = 0 ∧ s.aq = []
  /-- "While host silence lasts, the Action Queue is empty" (R59). -/
  silent_queue : s.ct.hostSilent = true → s.aq = []
  /-- Host silence begins under a timeout other than 0 (R170), and SET_MODE ends it before it writes one (R165). -/
  silent_timeout : s.ct.hostSilent = true → s.hlk.timeout ≠ 0
  /-- A hold countdown runs only during host silence, of a channel whose demand is ON (R58, R59). -/
  countdowns : ∀ c : Chan, (s.ct.entries.get c).countdown.isSome = true →
    s.ct.hostSilent = true ∧ ChanSet.has s.ct.demand c = true

/-! ## The Channel Table -/

/-- A channel in the Channel Table is sound; `armed` says that the comparison is armed. -/
structure ChannelEntry.Sound (e : ChannelEntry) (armed : Bool) : Prop where
  /-- A held channel is pending (R29). -/
  held_pending : e.held = true → e.pending = true
  /-- "between frames each baseline equals the received counter mirror" (R110). -/
  baseline : e.baseline = e.mirror.counters
  /-- Once a field restart has been detected, a channel that is not pending shows its configured generation in the mirror (R187). -/
  confirmed : armed = true → e.pending = false → e.mirror.applied = some e.generation

/-- The Channel Table is sound. -/
def ChannelTable.Sound (t : ChannelTable) : Prop := ∀ c : Chan, (t.entries.get c).Sound t.armed

/-! ## The Barrier Link Controller -/

/-- The Barrier Link Controller is sound. -/
structure BarrierController.Sound (b : BarrierController) : Prop where
  quality_le : b.quality ≤ 255
  misses_le : b.misses ≤ 255
  /-- The link is LOST exactly when four or more consecutive status frames have been missed (TABLE 32). -/
  lost : b.link = .lost ↔ 4 ≤ b.misses
  /-- UP has a quality count below 64, and DEGRADED one above 16 (R74). -/
  up : b.link = .up → b.quality < 64
  degraded : b.link = .degraded → 16 < b.quality
  /-- The sync count leaves SYNCING at 8 (R73). -/
  syncing : b.link = .syncing → b.sync < 8
  good : b.goodTaken = true → b.misses = 0
  /-- The field-boot-seen flag and the mirrored field boot flag are set and cleared together (R79, R80). -/
  handshake : b.fieldBootSeen = b.mirrorBoot

/-! ## Mark Capture -/

/-- Mark Capture is sound; `runs` says that no control reset holds the logic side. -/
structure MarkCapture.Sound (m : MarkCapture) (runs : Bool) : Prop where
  /-- "While it is off, … the slot stays empty" (R152). -/
  slot_auto : m.slot.isSome = true → m.auto = true
  /-- "every emptying of the slot sets it to 0" (R153). -/
  slot_count : m.slot = none → m.overwrites = 0
  overwrites_le : m.overwrites ≤ 255
  /-- The recogniser is in HIGH exactly while the pin is high (R148). -/
  recogniser : runs = true → (m.recogniser = .high ↔ m.pin = .high)

/-! ## The Host Link and the Command Engine -/

/-- A frame that ends in a control reset is on TXD (R173). -/
def Txd.endsInReset : Txd → Bool
  | .idle | .quiet => false
  | .sending t => t.endsInReset

/-- The Host Link and the Command Engine are sound. -/
structure State.LinkSound (s : State) : Prop where
  /-- The inbound queue holds up to 4 frames (R163). -/
  inbound_le : s.hlk.inbound.length ≤ 4
  /-- "An ACK frame never enters the inbound queue" (R162). -/
  inbound_kind : ∀ f ∈ s.hlk.inbound, f.kind ≠ ackKind
  /-- The response queue holds up to 4 frames (R168). -/
  responses_le : s.hlk.responses.length ≤ 4
  /-- "the response of the command in execution always finds a place" (R163). -/
  waiting_place : ∀ w, s.ce.engine = .waiting w → s.hlk.responses.length ≤ 3
  /-- The wait timer has counted at most 20 ms (R166). -/
  waiting_elapsed : ∀ w, s.ce.engine = .waiting w → w.elapsed ≤ 400
  /-- The gap timer is stopped exactly in HUNT (TABLE 57). -/
  gap_timer : s.hlk.rx.gap = decide (s.hlk.rx.phase ≠ .hunt)
  /-- A break ends the frame that the receiver is assembling, and none begins before it has ended (R157, R160). -/
  break_hunt : s.hlk.broken = true → s.hlk.rx.phase = .hunt
  /-- Either of a response and a REPORT frame may be taken first only while TXD is idle and the response waits (R169). -/
  tie_idle : s.hlk.tie = true → s.hlk.txd = .idle ∧ s.hlk.responses ≠ []
  /-- While the logic side runs, the Command Engine is RESETTING exactly while a SOFT_RESET response waits or is sent (R173). -/
  resetting : s.runs = true →
    (s.ce.engine = .resetting ↔ (s.hlk.responses.any TxFrame.endsInReset || s.hlk.txd.endsInReset) = true)
  /-- The silence count stands at most at the timeout (R170). -/
  silence_le : s.hlk.silence ≤ silenceCycles s.hlk.timeout

end Sys2Proof.Machine
end

