-- ==== Sys2Proof/Certificates/Slice0/Obligations.lean ====
section
/-! DEFINITION. What is claimed of this model: the statements for the provers, family by family. Each says of which rule of the manual
it is a statement; where a clause rests on a choice of the model, its docstring names the log entry. -/

open Sys2Proof Sys2Proof.Machine

/-! ## The queue of commands -/

/-- A step takes the command at the front of the queue of commands waiting, on the state with the queue's rest; on an empty queue the
part idles. That the queue is first in, first out, and that the part idles with nothing to take, are the model's choices (log
entry 5): the manual has no such queue. -/
def Obligations.StepTakesFrontCommand : Prop :=
  (∀ (c : Instr) (rest : List Instr) (s : State),
    step { s with pending := c :: rest } = exec c { s with pending := rest }) ∧
  (∀ s : State, s.pending = [] → step s = .next s)

/-- Every command of the table answers a next state, in every state and with every operand, and leaves the commands waiting as they
are. That no rule of the manual stops the part is the model's deduction, no sentence of the manual (log entry 19), and that a command
whose conditions are not met still answers, with nothing changed, is the model's convention (log entry 2). -/
def Obligations.EveryCommandCompletes : Prop :=
  ∀ (c : Instr) (s : State), ∃ t, exec c s = .next t ∧ t.pending = s.pending

/-- A happening of the field die reads the field side and the frames under way alone, and writes them alone: in two states that agree
in these it answers two states that agree in these, and nothing of the logic side, of its pins or of the commands waiting changes
("A block changes another block's state by the paths of TABLE 2. Across the barrier, the path is the drive frame and the status
frame of each barrier cycle."). -/
def Obligations.FieldCommandsNoninterference : Prop :=
  ∀ (c : Instr) (s s' : State), onFieldDie c = true → s.field = s'.field → s.barrier = s'.barrier →
    ∃ t t', exec c s = .next t ∧ exec c s' = .next t' ∧ t.field = t'.field ∧ t.barrier = t'.barrier ∧
      OnlyFieldAndBarrier s t ∧ OnlyFieldAndBarrier s' t'

/-- A happening of the logic side neither reads nor writes the field side: with any field side in place of the one that stands, it
answers the same state with that field side. -/
def Obligations.LogicCommandsNoninterference : Prop :=
  ∀ (c : Instr) (s : State) (x : Option FieldSide), onFieldDie c = false →
    ∃ t, exec c s = .next t ∧ exec c { s with field := x } = .next { t with field := x } ∧ t.field = s.field

/-! ## Control reset -/

/-- While a control reset is held, NALERT is asserted, and no command of the logic side has an effect but the two edges of the MARK pin,
the moves of the NSTOP pin, and the beginning and the end of a control reset (R172). A move of the NSTOP pin or of the MARK pin
moves that pin and changes nothing else: the pins are followed, and no edge and no level is recognised. That everything else of the
logic side stands as it is while it is held is the model's choice (log entry 17). -/
def Obligations.HeldResetFreezesLogicSide : Prop :=
  ∀ (c : Instr) (s : State), s.held.isSome = true →
    s.nalert = true ∧
    (onFieldDie c = false →
      (∀ l, c ≠ .nstopPinChange l) → (∀ p, c ≠ .controlResetStart p) → (∀ p, c ≠ .controlResetEnd p) →
      c ≠ .markFall → c ≠ .markRise → exec c s = .next s) ∧
    (∀ l, exec (.nstopPinChange l) s = .next { s with ct := { s.ct with nstopPin := l } }) ∧
    exec .markFall s = .next { s with mc := { s.mc with pin := .low } } ∧
    exec .markRise s = .next { s with mc := { s.mc with pin := .high } }

/-- A control reset begins (R172): the logic side is held, NALERT is asserted and TXD is driven high at once; the cause held is POWER once
VL has been out of its range during the reset; nothing else changes (that the logic side keeps its values while it is held is the
model's choice, log entry 17). It ends: the logic side takes its reset values, the first drive frame is sent, and the field side, the
levels of the MARK and NSTOP pins, the status frames under way (the model's choice, log entry 6) and the commands waiting stay as they
are. That no break is in force after it, and that the model's own mark of a response and a REPORT frame is clear, are the model's
choices (log entries 13 and 24). A CONTROL_RESET_END with no control reset held does nothing (the model's convention, log entry 2). -/
def Obligations.ControlReset : Prop :=
  ∀ (s : State),
    (∀ p : ResetPin, ∃ t, exec (.controlResetStart p) s = .next t ∧
      t = { s with
        held := some (if s.held = some .power then .power else p)
        hlk := { s.hlk with txd := .idle } } ∧
      t.nalert = true ∧ t.onTxd = none) ∧
    (∀ (straps : BitVec 2) (p : ResetPin), s.held = some p →
      ∃ t, exec (.controlResetEnd straps) s = .next t ∧
        AfterControlReset t (match p with
          | .power => .power
          | .pin => .pin) straps ∧
        t.field = s.field ∧ t.ct.nstopPin = s.ct.nstopPin ∧ t.mc.pin = s.mc.pin ∧
        t.barrier.status = s.barrier.status ∧ t.barrier.late = s.barrier.late ∧ t.pending = s.pending) ∧
    (s.held = none → ∀ straps, exec (.controlResetEnd straps) s = .next s)

/-- `State.reset` is the part after a control reset of cause POWER with a field side after a field reset of cause SUPPLY: the values that
the manual's tables give. Which reset of which die comes first, the levels of the pins and straps and what the sensors read are the
model's choice (log entry 1), and so are the frames under way and the empty queue of commands (log entries 5 and 6), no break in force
and the model's own mark of a response and a REPORT frame (log entries 13 and 24). -/
def Obligations.ResetState : Prop :=
  AfterControlReset State.reset .power 0 ∧
  (∃ f, State.reset.field = some f ∧ AfterFieldReset f .supply 0 FieldSense.nominal) ∧
  State.reset.mc.pin = .high ∧ State.reset.ct.nstopPin = .high ∧ State.reset.barrier.status = [] ∧
  State.reset.barrier.late = [] ∧ State.reset.pending = []

/-- `State.reset` meets every property that the steps keep. -/
def Obligations.ResetStateIsSound : Prop :=
  State.reset.FieldSound ∧ State.reset.ru.Sound ∧ QueueSound State.reset.aq ∧ State.reset.DemandSound ∧
  State.reset.ct.Sound ∧ State.reset.blc.Sound ∧ State.reset.mc.Sound State.reset.runs ∧ State.reset.LinkSound

/-- VF that falls below 8.0 V stops the field die at once, and no state of the field side is kept: every switch is open and no test
current is sourced (R1, R21). VF that rises above 9.0 V starts a
stopped field die with a field reset of cause SUPPLY, and does nothing to a running one (R46). VF at or above 8.0 V stops no field die,
and at or below 9.0 V a stopped one stays stopped; a row with such a VF has no effect (the model's convention, log entry 2). Nothing
else changes: that the frames under way across the barrier are not withdrawn is the model's choice (log entry 6). -/
def Obligations.FieldDieStopsAndStarts : Prop :=
  (∀ (s : State) (vf : Nat), vf < 8000 →
    exec (.fieldDieStop vf) s = .next { s with field := none } ∧ ∀ c, ({ s with field := none } : State).switchClosed c = false ∧
      ({ s with field := none } : State).testCurrent c = false) ∧
  (∀ (s : State) (vf : Nat), 8000 ≤ vf → exec (.fieldDieStop vf) s = .next s) ∧
  (∀ (s : State) (sense : FieldSense), s.field = none → 9000 < sense.vf →
    ∃ f, AfterFieldReset f .supply 0 sense ∧ exec (.fieldResetSupply sense) s = .next { s with field := some f }) ∧
  (∀ (s : State) (sense : FieldSense), s.field = none → sense.vf ≤ 9000 → exec (.fieldResetSupply sense) s = .next s) ∧
  (∀ (s : State) (f : FieldSide) (sense : FieldSense), s.field = some f → exec (.fieldResetSupply sense) s = .next s)

/-! ## The Channel Supervisors -/

/-- Regulation (R2, R6, R7, R8). The load current reaches the limit in force: in STARTING, at twice the class limit, regulation begins and
the limit timer starts; in ON, at the class limit, the channel passes into LIMITING. It falls below 90 % of the limit in force: in
STARTING regulation ends and the limit timer stops; in LIMITING the channel returns to ON with its settle timer started again.
With the switch open, with the channel on the other side of the limit already, with a current that has not reached the limit in force,
or with one that has not fallen below 90 % of it, nothing changes. Currents are in microamperes. -/
def Obligations.Regulation : Prop :=
  (LimitClass.low.limit = 500000 ∧ LimitClass.mid.limit = 1000000 ∧ LimitClass.high.limit = 2000000) ∧
  ∀ (s : State) (f : FieldSide) (c : Chan) (current : Nat) (v : Supervisor),
    s.field = some f → (f.channels.get c).supervisor = v →
    (v.protection = .starting → v.inRegulation = false → 2 * v.record.limitClass.limit ≤ current →
      exec (.regulationBegins c current) s =
        .next (s.withSupervisor f c { v with inRegulation := true, limitTimer := true })) ∧
    (v.protection = .on → v.inRegulation = false → v.record.limitClass.limit ≤ current →
      exec (.regulationBegins c current) s = .next (s.withSupervisor f c v.inLimiting)) ∧
    (v.protection.closed = false ∨ v.inRegulation = true → exec (.regulationBegins c current) s = .next s) ∧
    (v.protection = .starting → current < 2 * v.record.limitClass.limit → exec (.regulationBegins c current) s = .next s) ∧
    (v.protection = .on ∨ v.protection = .limiting → current < v.record.limitClass.limit →
      exec (.regulationBegins c current) s = .next s) ∧
    (v.protection = .starting → v.inRegulation = true → 10 * current < 18 * v.record.limitClass.limit →
      exec (.regulationEnds c current) s =
        .next (s.withSupervisor f c { v with inRegulation := false, limitTimer := false })) ∧
    (v.protection = .limiting → v.inRegulation = true → 10 * current < 9 * v.record.limitClass.limit →
      exec (.regulationEnds c current) s = .next (s.withSupervisor f c (v.inOn current))) ∧
    (v.protection = .on ∨ v.protection = .limiting → 9 * v.record.limitClass.limit ≤ 10 * current →
      exec (.regulationEnds c current) s = .next s) ∧
    (v.protection.closed = false ∨ v.inRegulation = false ∨ 18 * v.record.limitClass.limit ≤ 10 * current →
      exec (.regulationEnds c current) s = .next s)

/-- The inrush timer runs out (R5): below the class limit the channel enters ON with its settle timer started, and at or above it the
channel passes at once into LIMITING with a limit timer of its own. The settle timer reaches 100 ms (R7): the retry count becomes
0 and the timer stops. A timer that does not run does nothing. -/
def Obligations.InrushAndSettleExpiry : Prop :=
  ∀ (s : State) (f : FieldSide) (c : Chan) (current : Nat) (v : Supervisor),
    s.field = some f → (f.channels.get c).supervisor = v →
    (∀ n, v.protection = .starting → v.inrush = some n →
      exec (.inrushTimerExpiry c current) s =
        .next (s.withSupervisor f c (if v.record.limitClass.limit ≤ current then v.inLimiting else v.inOn current))) ∧
    (v.inrush = none → exec (.inrushTimerExpiry c current) s = .next s) ∧
    (v.settleTimer = true →
      exec (.settleTimerExpiry c) s = .next (s.withSupervisor f c { v with retry := 0, settleTimer := false })) ∧
    (v.settleTimer = false → exec (.settleTimerExpiry c) s = .next s)

/-- The switch of a channel is closed in STARTING, ON and LIMITING and open in the other protection states, and an open switch with the
OPEN_OFF enable set sources the test current (R1, R21). The two causes of a trip (R3, R6, R8, R9, R10): the limit timer that reaches 2 ms trips a channel whose switch is closed with
cause OVERCURRENT, and a temperature flag that becomes HOT, as it does when the junction reaches 160 °C, trips it with cause
OVERTEMP. The trip opens the switch, stops the timers, advances the counter of its cause modulo 16, and goes to COOLDOWN below the
retry budget and to LOCKED otherwise. With the switch open the flag becomes HOT and nothing else changes; below 160 °C a COOL flag
keeps its value; and a limit timer that does not run does nothing. Temperatures are in thousandths of a degree. -/
def Obligations.TripsOpenTheSwitch : Prop :=
  ∀ (s : State) (f : FieldSide) (c : Chan) (v : Supervisor) (junction : Int),
    s.field = some f → (f.channels.get c).supervisor = v →
    (s.switchClosed c = true ↔ v.protection = .starting ∨ v.protection = .on ∨ v.protection = .limiting) ∧
    (s.testCurrent c = true ↔ s.switchClosed c = false ∧ v.record.openOffEnable = true) ∧
    v.protection.closed = s.switchClosed c ∧
    (v.protection.closed = true → v.limitTimer = true →
      exec (.limitTimerExpiry c) s =
        .next (s.withSupervisor f c (v.tripped { v.counters with overcurrent := v.counters.overcurrent + 1 }))) ∧
    (v.limitTimer = false ∨ v.protection.closed = false → exec (.limitTimerExpiry c) s = .next s) ∧
    (v.protection.closed = true → v.hot = false → 160000 ≤ junction →
      exec (.junctionHot ⟨c, junction⟩) s =
        .next (s.withSupervisor f c
          { v.tripped { v.counters with overtemp := v.counters.overtemp + 1 } with hot := true })) ∧
    (v.protection.closed = false → v.hot = false → 160000 ≤ junction →
      exec (.junctionHot ⟨c, junction⟩) s = .next (s.withSupervisor f c { v with hot := true })) ∧
    (v.hot = true ∨ junction < 160000 → exec (.junctionHot ⟨c, junction⟩) s = .next s)

/-- The attempt out of COOLDOWN (R3, R12): it is made when the cooldown timer has run out and the temperature flag is COOL,
whichever of the two comes last; the switch closes with the retry count as it is. A HOT flag becomes COOL when the junction falls
below 145 °C, and at or above that temperature it keeps its value. Temperatures are in thousandths of a degree. That the load
current starts from 0 at a closing is the model's choice (log entry 7). -/
def Obligations.AttemptOutOfCooldown : Prop :=
  ∀ (s : State) (f : FieldSide) (c : Chan) (v : Supervisor) (junction : Int),
    s.field = some f → (f.channels.get c).supervisor = v →
    (∀ n, v.protection = .cooldown → v.cooldown = .running n → v.hot = false →
      exec (.cooldownTimerExpiry c) s = .next (s.withSupervisor f c v.closedNow)) ∧
    (∀ n, v.protection = .cooldown → v.cooldown = .running n → v.hot = true →
      exec (.cooldownTimerExpiry c) s = .next (s.withSupervisor f c { v with cooldown := .elapsed })) ∧
    (v.cooldown = .stopped → exec (.cooldownTimerExpiry c) s = .next s) ∧
    (v.hot = true → v.protection = .cooldown → v.cooldown = .elapsed → junction < 145000 →
      exec (.junctionCool ⟨c, junction⟩) s = .next (s.withSupervisor f c { v with hot := false }.closedNow)) ∧
    (v.hot = true → v.cooldown ≠ .elapsed → junction < 145000 →
      exec (.junctionCool ⟨c, junction⟩) s = .next (s.withSupervisor f c { v with hot := false })) ∧
    (v.hot = false ∨ 145000 ≤ junction → exec (.junctionCool ⟨c, junction⟩) s = .next s)

/-- The OPEN_ON detector of a channel in ON with the enable set (R18, R19): below the threshold with the condition absent its timer runs,
at or above it the timer is stopped; at its length the condition is present and the counter advances modulo 16; above 125 % of
the threshold the condition is absent again. -/
def Obligations.OpenOnDetector : Prop :=
  ∀ (s : State) (f : FieldSide) (c : Chan) (current : Nat) (v : Supervisor),
    s.field = some f → (f.channels.get c).supervisor = v →
    (v.protection = .on → v.record.openOnEnable = true → v.openOn = false → v.openOnTimer = none →
      current < v.record.openThreshold.current →
      exec (.openThresholdCrossing c current) s =
        .next (s.withSupervisor f c { v with openOnTimer := some v.record.openQualification })) ∧
    (v.protection = .on → v.record.openOnEnable = true → v.openOn = false → v.record.openThreshold.current ≤ current →
      exec (.openThresholdCrossing c current) s = .next (s.withSupervisor f c { v with openOnTimer := none })) ∧
    (v.protection ≠ .on ∨ v.record.openOnEnable = false ∨ v.openOn = true →
      exec (.openThresholdCrossing c current) s = .next s) ∧
    (∀ q, v.openOnTimer = some q →
      exec (.openOnQualificationExpiry c) s =
        .next (s.withSupervisor f c
          { v with
            openOnTimer := none, openOn := true,
            counters := { v.counters with openOn := v.counters.openOn + 1 } })) ∧
    (v.openOnTimer = none → exec (.openOnQualificationExpiry c) s = .next s) ∧
    (v.openOn = true → 125 * v.record.openThreshold.current < 100 * current →
      exec (.openOnCurrentRecovery c current) s = .next (s.withSupervisor f c { v with openOn := false })) ∧
    (v.openOn = false ∨ 100 * current ≤ 125 * v.record.openThreshold.current →
      exec (.openOnCurrentRecovery c current) s = .next s)

/-- The timers of the two off-state detectors (R22, R23): at 6 ms a qualification timer makes its condition present and advances its
counter modulo 16, and a clearing timer makes the condition absent; a timer that does not run does nothing. -/
def Obligations.OffStateDetectorTimers : Prop :=
  ∀ (s : State) (f : FieldSide) (c : Chan) (v : Supervisor),
    s.field = some f → (f.channels.get c).supervisor = v →
    exec (.openOffQualificationExpiry c) s =
      .next (s.withSupervisor f c
        (if v.openOff.qualifying then
          { v with openOff := ⟨false, false, true⟩, counters := { v.counters with openOff := v.counters.openOff + 1 } }
        else v)) ∧
    exec (.shortSupplyQualificationExpiry c) s =
      .next (s.withSupervisor f c
        (if v.shortSupply.qualifying then
          { v with
            shortSupply := ⟨false, false, true⟩
            counters := { v.counters with shortSupply := v.counters.shortSupply + 1 } }
        else v)) ∧
    exec (.openOffClearingExpiry c) s =
      .next (s.withSupervisor f c (if v.openOff.clearing then { v with openOff := ⟨false, false, false⟩ } else v)) ∧
    exec (.shortSupplyClearingExpiry c) s =
      .next (s.withSupervisor f c (if v.shortSupply.clearing then { v with shortSupply := ⟨false, false, false⟩ } else v))

/-- The off-state detectors see the output voltage (R20, R22, R23, R24), when the off-blanking timer elapses and when the voltage moves:
with the switch open, the off-blanking timer elapsed and the band not DROPOUT, the OPEN_OFF qualification timer runs from 4.5 V
to 11 V and the SHORT_SUPPLY one above 11 V while the condition is absent, and the clearing timer runs outside that range while
the condition is present. Otherwise the voltage changes nothing. -/
def Obligations.OffStateVoltage : Prop :=
  ∀ (s : State) (f : FieldSide) (c : Chan) (mv : Int) (v : Supervisor),
    s.field = some f → (f.channels.get c).supervisor = v →
    let sees (w : Supervisor) : Supervisor :=
      { w with
        openOff :=
          if w.record.openOffEnable = true then
            (if w.openOff.present = true then ⟨false, decide (mv < 4500 ∨ 11000 < mv), true⟩
             else ⟨decide (4500 ≤ mv ∧ mv ≤ 11000), false, false⟩)
          else w.openOff
        shortSupply :=
          if w.record.shortSupplyEnable = true then
            (if w.shortSupply.present = true then ⟨false, decide (mv ≤ 11000), true⟩
             else ⟨decide (11000 < mv), false, false⟩)
          else w.shortSupply }
    (v.protection.closed = false → v.blanking = .elapsed → f.band ≠ .dropout →
      exec (.outputVoltageWindowChange c mv) s = .next (s.withSupervisor f c (sees v))) ∧
    (v.protection.closed = true ∨ v.blanking ≠ .elapsed ∨ f.band = .dropout →
      exec (.outputVoltageWindowChange c mv) s = .next s) ∧
    (v.protection.closed = false → v.blanking = .running → f.band ≠ .dropout →
      exec (.offBlankingExpiry c mv) s = .next (s.withSupervisor f c (sees { v with blanking := .elapsed }))) ∧
    (v.blanking = .running → f.band = .dropout →
      exec (.offBlankingExpiry c mv) s = .next (s.withSupervisor f c { v with blanking := .elapsed })) ∧
    (v.blanking ≠ .running → exec (.offBlankingExpiry c mv) s = .next s)

/-! ## The Supply Monitor -/

/-- VF moves, at or above 8.0 V (R45): the candidate band is the one that TABLE 22 gives for VF and the band in force, column by column,
and the filter timer runs while it differs from the band in force. VF is in millivolts. -/
def Obligations.CandidateBand : Prop :=
  ∀ (s : State) (f : FieldSide) (vf : Nat) (b : Band), s.field = some f → 8000 ≤ vf →
    (vf < 13000 → b = .dropout) →
    (13000 ≤ vf → vf ≤ 14000 → b = if f.band = .dropout then .dropout else .low) →
    (14000 < vf → vf < 17500 → b = .low) →
    (17500 ≤ vf → vf ≤ 18500 → b = if f.band = .normal then .normal else .low) →
    (18500 < vf → b = .normal) →
    exec (.vfCandidateChange vf) s =
      .next { s with field := some { f with candidate := b, filterTimer := decide (b ≠ f.band) } }

/-- The supply filter reaches 1 ms (R24, R45, R47, R52): the candidate becomes the band in force. Entering DROPOUT ends every hold, stops
the timers of the off-state detectors with their conditions held, and makes every effective demand OFF; leaving DROPOUT forms the
effective demand again and lets the off-state detectors see the output voltages; a change between LOW and NORMAL does nothing
else. With the timer stopped nothing changes. The field side is sound: an unsound one might have its demand formed anew. That the load
current is 0 as a switch closes, so that the OPEN_ON timer of a channel that starts in ON runs, is the model's deduction (log entry
7). -/
def Obligations.SupplyFilterExpiry : Prop :=
  ∀ (s : State) (f : FieldSide) (mv : PerChan Int), s.field = some f → f.Sound →
    (f.filterTimer = true → f.candidate = .dropout →
      exec (.supplyFilterExpiry mv) s =
        .next { s with
          field := some { f with
            band := .dropout, filterTimer := false,
            channels := Table.ofFn fun c =>
              ({ f.channels.get c with
                hold := none
                supervisor :=
                  { (f.channels.get c).supervisor with
                    openOff := ⟨false, false, (f.channels.get c).supervisor.openOff.present⟩
                    shortSupply := ⟨false, false, (f.channels.get c).supervisor.shortSupply.present⟩ } } :
                  FieldChannel).demanded false } }) ∧
    (f.filterTimer = true → f.band = .dropout →
      exec (.supplyFilterExpiry mv) s =
        .next { s with
          field := some { f with
            band := f.candidate, filterTimer := false,
            channels := Table.ofFn fun c =>
              let ch := (f.channels.get c).demanded
                (tableDemand f.mode f.candidate f.received f.stop (f.channels.get c).hold c)
              { ch with supervisor := ch.supervisor.senseVoltage f.candidate (mv.get c) } } }) ∧
    (f.filterTimer = true → f.candidate ≠ .dropout → f.band ≠ .dropout →
      exec (.supplyFilterExpiry mv) s =
        .next { s with field := some { f with band := f.candidate, filterTimer := false } }) ∧
    (f.filterTimer = false → exec (.supplyFilterExpiry mv) s = .next s)

/-! ## The Barrier Link Responder -/

/-- A good drive frame with no configuration slot that brings no field reset is taken and answered (R48 to R52, R64, R66 to R68): the cycle
number, the miss count and the watch timer; then the field boot flag; then the received values, the field mode, the holds and
the effective demand of TABLE 26; then the release tokens; and the status frame that shows the result. A stopped field die, and
one in the 1 ms of silence after a field reset of cause SUPPLY, discards the frame (R46, R69). That the load current is 0 as a switch
closes, so that the OPEN_ON timer of a channel that starts in ON runs, is the model's deduction (log entry 7). -/
def Obligations.DriveFrameAnswered : Prop :=
  (∀ g : FieldSide, g.statusFrame =
    ⟨g.cycle, g.boot, g.cause, g.mode, g.band, Table.ofFn fun c =>
      let v := (g.channels.get c).supervisor
      ⟨v.protection, v.retry, ⟨v.inRegulation, v.hot, v.openOn, v.openOff.present, v.shortSupply.present⟩, v.counters,
        (g.channels.get c).applied, (g.channels.get c).token⟩⟩) ∧
  (∀ (s : State) (f : FieldSide) (d : DriveFrame) (sense : FieldSense) (mode : FieldMode),
    s.field = some f → f.silent = false → s.barrier.drive = some d → d.slot = none →
    (d.controlBoot = false ∨ f.boot = true) →
    mode = (if d.resume = true ∧ (f.boot = false ∨ d.fieldBootSeen = true) then .active else f.mode) →
    exec (.driveFrameTaken sense) s =
      .next (s.answersStatus
        { f with
          cycle := d.cycle, misses := 0, watch := some 60, boot := f.boot && !d.fieldBootSeen,
          received := d.demand, stop := d.stop, mode := mode,
          channels := Table.ofFn fun c =>
            let hold := if mode = .active ∨ d.stop = true then none else (f.channels.get c).hold
            (({ f.channels.get c with hold := hold } : FieldChannel).demanded
              (tableDemand mode f.band d.demand d.stop hold c)).released (d.tokens.get c) } none)) ∧
  (∀ (s : State) (sense : FieldSense), (∀ f, s.field = some f → f.silent = true) →
    exec (.driveFrameTaken sense) s = .next { s with barrier := { s.barrier with drive := none } })

/-- The configuration slot of a good drive frame (R37): a generation that is already applied is ignored, and the frame is taken as the
same frame without a slot; any other is recorded as applied and its record handed to the supervisor, and the rest of the frame is
then taken as the same frame without a slot. -/
def Obligations.ConfigurationSlotApplied : Prop :=
  ∀ (s : State) (f : FieldSide) (d : DriveFrame) (x : ConfigSlot) (sense : FieldSense),
    s.field = some f → s.barrier.drive = some d → d.slot = some x → (d.controlBoot = false ∨ f.boot = true) →
    ((f.channels.get x.channel).applied = some x.generation →
      exec (.driveFrameTaken sense) s =
        exec (.driveFrameTaken sense) { s with barrier := { s.barrier with drive := some { d with slot := none } } }) ∧
    (f.silent = false → (f.channels.get x.channel).applied ≠ some x.generation →
      exec (.driveFrameTaken sense) s =
        exec (.driveFrameTaken sense)
          { s with
            barrier := { s.barrier with drive := some { d with slot := none } }
            field := some { f with
              channels := f.channels.set x.channel
                { f.channels.get x.channel with
                  applied := some x.generation
                  supervisor := (f.channels.get x.channel).supervisor.applyRecord x.record f.band
                    (sense.loads.get x.channel).current (sense.loads.get x.channel).voltage } } })

/-- What applying a record does to a sound supervisor (R2, R25, R37 to R39, TABLE 19): the record is replaced whole and the retry count
becomes 0; the protection state changes only where the limit in force moves across the present current, and the settle and limit
timers follow it; the inrush, cooldown and off-blanking timers run on with their lengths. A channel that stays in ON with the OPEN_ON
enable set keeps a present condition; its timer runs on if neither the threshold nor the qualification time changes, and starts from
zero under the new values if one does or if the enable was clear. A detector whose enable is cleared has its condition absent and its
timers stopped; an off-state detector whose enable stays set keeps its condition and its timers, and one whose enable is set is
tested at once where it runs. That a record which leaves the limit as it was leaves regulation as it was is the model's deduction (log
entry 23), and that a cleared enable makes an off-state condition absent in DROPOUT too is its choice (log entry 28). -/
def Obligations.RecordApplied : Prop :=
  ∀ (v : Supervisor) (effective : Bool) (band : Band) (r : ConfigRecord) (current : Nat) (mv : Int),
    v.Sound effective band →
    let w := v.applyRecord r band current mv
    let fresh : Option OpenQualification :=
      if r.openOnEnable = true ∧ current < r.openThreshold.current then some r.openQualification else none
    let runs : Prop := v.protection.closed = false ∧ v.blanking = .elapsed ∧ band ≠ .dropout
    w.record = r ∧ w.retry = 0 ∧ w.hot = v.hot ∧ w.counters = v.counters ∧ w.inrush = v.inrush ∧
    w.cooldown = v.cooldown ∧ w.blanking = v.blanking ∧
    w.protection =
      (if v.protection = .on ∧ r.limitClass.limit < v.record.limitClass.limit ∧ r.limitClass.limit ≤ current then .limiting
       else if v.protection = .limiting ∧ r.limitClass ≠ v.record.limitClass ∧ 10 * current < 9 * r.limitClass.limit then .on
       else v.protection) ∧
    w.inRegulation =
      (if v.protection = .starting ∧ r.limitClass ≠ v.record.limitClass then
        (if v.inRegulation = true then decide (18 * r.limitClass.limit ≤ 10 * current)
         else decide (r.limitClass.limit < v.record.limitClass.limit ∧ 2 * r.limitClass.limit ≤ current))
       else if v.protection = .starting then v.inRegulation
       else decide (w.protection = .limiting)) ∧
    w.limitTimer = w.inRegulation ∧
    w.settleTimer = (if w.protection = v.protection then v.settleTimer else decide (w.protection = .on)) ∧
    (w.protection ≠ .on → w.openOn = false ∧ w.openOnTimer = none) ∧
    (v.protection ≠ .on → w.protection = .on → w.openOn = false ∧ w.openOnTimer = fresh) ∧
    (v.protection = .on → w.protection = .on → r.openOnEnable = false → w.openOn = false ∧ w.openOnTimer = none) ∧
    (v.protection = .on → w.protection = .on → r.openOnEnable = true →
      w.openOn = v.openOn ∧
      w.openOnTimer =
        (if v.openOn = true then none
         else if v.record.openOnEnable = true ∧ r.openThreshold = v.record.openThreshold ∧
             r.openQualification = v.record.openQualification then v.openOnTimer
         else fresh)) ∧
    (r.openOffEnable = false → w.openOff = ⟨false, false, false⟩) ∧
    (r.shortSupplyEnable = false → w.shortSupply = ⟨false, false, false⟩) ∧
    (r.openOffEnable = true → v.record.openOffEnable = true → w.openOff = v.openOff) ∧
    (r.shortSupplyEnable = true → v.record.shortSupplyEnable = true → w.shortSupply = v.shortSupply) ∧
    (r.openOffEnable = true → v.record.openOffEnable = false →
      w.openOff = ⟨decide (runs ∧ 4500 ≤ mv ∧ mv ≤ 11000), false, false⟩) ∧
    (r.shortSupplyEnable = true → v.record.shortSupplyEnable = false →
      w.shortSupply = ⟨decide (runs ∧ 11000 < mv), false, false⟩)

/-- The control boot flag of a good drive frame (R67, R69, R70, R78): with the field boot flag clear it brings a field reset of cause
CONTROL that keeps the frame's cycle number, and the rest of the frame, with whatever slot, demand, tokens and flags it carries, is
then taken as the same frame with the control boot flag clear in the state of that reset; with the field boot flag set it does
nothing. A frame as the logic side sends it first after a control reset, with no demand, tokens of 0, no slot and no
field-boot-seen flag, is answered in the state of the reset itself. That a frame before the field reset can carry a demand or a slot
is the model's choice (log entry 29). -/
def Obligations.ControlBootResetsFieldSide : Prop :=
  (∀ (s : State) (f : FieldSide) (d : DriveFrame) (sense : FieldSense),
    s.field = some f → f.silent = false → f.boot = false → s.barrier.drive = some d → d.controlBoot = true →
    d.slot = none → d.fieldBootSeen = false → d.demand = 0 → (∀ c, d.tokens.get c = 0) →
    ∃ g : FieldSide, AfterFieldReset { g with stop := false } .control d.cycle sense ∧ g.stop = d.stop ∧
      exec (.driveFrameTaken sense) s = .next (s.answersStatus g none)) ∧
  (∀ (s : State) (f : FieldSide) (d : DriveFrame) (sense : FieldSense),
    s.field = some f → f.silent = false → f.boot = false → s.barrier.drive = some d → d.controlBoot = true →
    ∃ g : FieldSide, AfterFieldReset g .control d.cycle sense ∧
      exec (.driveFrameTaken sense) s =
        exec (.driveFrameTaken sense)
          { s with
            field := some g
            barrier := { s.barrier with drive := some { d with controlBoot := false } } }) ∧
  (∀ (s : State) (f : FieldSide) (d : DriveFrame) (sense : FieldSense),
    s.field = some f → f.boot = true → s.barrier.drive = some d →
    exec (.driveFrameTaken sense) s =
      exec (.driveFrameTaken sense)
        { s with barrier := { s.barrier with drive := some { d with controlBoot := false } } })

/-- The watch timer runs out (R48, R51, R64, R66): the miss count is incremented and stands at 255, the cycle number advances modulo 256,
the timer starts again with 50 µs, and a status frame is sent. In ACTIVE a count that reaches 4 enters SAFE, where a channel
whose fail action is HOLD and whose effective demand is ON starts its hold and keeps the demand, and every other channel's
effective demand is OFF. With no watch timer running nothing changes. -/
def Obligations.WatchTimerCountsMiss : Prop :=
  ∀ (s : State) (f : FieldSide), s.field = some f →
    (∀ n, f.watch = some n → ¬(f.mode = .active ∧ 3 ≤ f.misses) →
      exec .watchTimerExpiry s =
        .next (s.answersStatus
          { f with misses := if f.misses < 255 then f.misses + 1 else 255, cycle := f.cycle + 1, watch := some 50 }
          s.barrier.drive)) ∧
    (∀ n, f.watch = some n → f.mode = .active → 3 ≤ f.misses →
      exec .watchTimerExpiry s =
        .next (s.answersStatus
          { f with
            misses := if f.misses < 255 then f.misses + 1 else 255, cycle := f.cycle + 1, watch := some 50, mode := .safe,
            channels := Table.ofFn fun c =>
              let ch := f.channels.get c
              let hold := if ch.supervisor.record.failAction = .hold ∧ ch.effective = true
                then some ch.supervisor.record.holdTime else none
              ({ ch with hold := hold } : FieldChannel).demanded (decide (hold.isSome = true ∧ f.band ≠ .dropout)) }
          s.barrier.drive)) ∧
    (f.watch = none → exec .watchTimerExpiry s = .next s)

/-- The Responder's own timers (R51, R69): a hold timer that runs out stops and makes its channel's effective demand OFF, and the other
channels stay as they are; the 1 ms of silence that passes starts the watch timer with 60 µs. A timer that does not run does
nothing. -/
def Obligations.HoldAndSilenceExpiry : Prop :=
  ∀ (s : State) (f : FieldSide) (c : Chan), s.field = some f →
    (∀ n, f.Sound → (f.channels.get c).hold = some n →
      exec (.holdTimerExpiry c) s =
        .next { s with
          field := some { f with
            channels := f.channels.set c (({ f.channels.get c with hold := none } : FieldChannel).demanded false) } }) ∧
    ((f.channels.get c).hold = none → exec (.holdTimerExpiry c) s = .next s) ∧
    (f.silent = true →
      exec .supplyResetSilenceExpiry s = .next { s with field := some { f with silent := false, watch := some 60 } }) ∧
    (f.silent = false → exec .supplyResetSilenceExpiry s = .next s)

/-! ## The Barrier Link Controller -/

/-- The start of a barrier cycle (R59, R62, R71, R77, R142, R166, R170): the cycle just ended is closed, part time advances by one
modulo 2^32, and the silence count, the retransmission timer, the wait timer and the hold countdowns count the advance, each
standing at its end until its expiry is taken (the model's choice, log entry 9); then the happenings listed for this advance are
taken (R89, R97), which of them come before the frame being an operand (the model's choice, log entry 10), and the drive frame is
sent; a response and a REPORT frame that come with it may go in either order (log entry 24). A cycle closed without a good status
frame counts a miss: the miss count and the quality count stand at 255, the fourth consecutive miss makes the link LOST and clears
the two boot flags, a quality count of 64 makes UP DEGRADED, and a change of link state raises BARRIER, stamped with the part time
before the advance (deduced, log entry 15). That status frames built in one cycle may be taken in the next is the model's choice
(log entry 6). -/
def Obligations.CycleStart : Prop :=
  ∀ (s : State) (first : List AdvanceHappening), s.runs = true →
    ∃ u : State, exec (.barrierCycleStart first) s = .next ((first.foldl State.takeAdvance u).sendFrame.tiedFrom s) ∧
      u.field = s.field ∧ u.aq = s.aq ∧ u.mc = s.mc ∧ u.held = none ∧ u.lastCause = s.lastCause ∧ u.pending = s.pending ∧
      u.barrier = ⟨s.barrier.drive, [], s.barrier.status⟩ ∧
      u.ct = { s.ct with
        entries := Table.ofFn fun c => { s.ct.entries.get c with countdown := (s.ct.entries.get c).countdown.map (· - 1) } } ∧
      u.hlk = { s.hlk with
        silence := if s.hlk.timeout ≠ 0 ∧ s.ct.hostSilent = false ∧ s.hlk.silence < 200 * s.hlk.timeout.toNat
          then s.hlk.silence + 1 else s.hlk.silence } ∧
      (∀ w, s.ce.engine = .waiting w →
        u.ce = { s.ce with engine := .waiting { w with elapsed := if w.elapsed < 400 then w.elapsed + 1 else 400 } }) ∧
      ((∀ w, s.ce.engine ≠ .waiting w) → u.ce = s.ce) ∧
      (s.blc.goodTaken = true →
        u.blc = { s.blc with time := s.blc.time + 1, goodTaken := false } ∧
        u.ru = { s.ru with timer := s.ru.timer.map fun n => if n < 1000 then n + 1 else 1000 }) ∧
      (s.blc.goodTaken = false →
        ∀ (misses quality : Nat) (link : LinkState),
          misses = (if s.blc.misses < 255 then s.blc.misses + 1 else 255) →
          quality = (if s.blc.quality < 252 then s.blc.quality + 4 else 255) →
          link = (if 4 ≤ misses then .lost else if s.blc.link = .up ∧ 64 ≤ quality then .degraded else s.blc.link) →
          u.blc = { s.blc with
            time := s.blc.time + 1, goodTaken := false, misses := misses, quality := quality, sync := 0, link := link,
            fieldBootSeen := decide (s.blc.fieldBootSeen = true ∧ misses < 4),
            mirrorBoot := decide (s.blc.mirrorBoot = true ∧ misses < 4) } ∧
          u.ru = (let r := if link = s.blc.link then s.ru else s.ru.take s.blc.time (.barrier s.blc.link link)
            { r with timer := r.timer.map fun n => if n < 1000 then n + 1 else 1000 }))

/-- The drive frame of a cycle (R30, R63, R77, R78, R80, R81): it carries the cycle number, the two boot flags, the resume flag while the
link is UP or DEGRADED, the stop flag while NSTOP is recognised LOW, the demand set, every token, and the record of the first
channel after the slot pointer, in channel-number order and wrapping from 11 to 0, that is pending and not held; the pointer moves
to that channel and its generation joins its doubt set. With no such channel the frame carries no slot and the pointer stays. A start
of a cycle with nothing to count sends this frame and advances part time; that the drive frame before it is no longer under way, and
that status frames built in the cycle just ended may be taken in the next, is the model's choice (log entry 6). That a frame between a
control reset and the field reset that it brings carries what has been written since, too, is another (log entry 29). -/
def Obligations.DriveFrameBuilt : Prop :=
  ∀ s : State,
    (∀ t, t = s.sendFrame → ∃ d : DriveFrame, t.barrier = { s.barrier with drive := some d } ∧
      d.cycle = s.blc.time.setWidth 8 ∧ d.controlBoot = s.blc.controlBoot ∧ d.fieldBootSeen = s.blc.fieldBootSeen ∧
      d.resume = decide (s.blc.link = .up ∨ s.blc.link = .degraded) ∧ d.stop = decide (s.ct.nstop = .low) ∧
      d.demand = s.ct.demand ∧ (∀ c, d.tokens.get c = (s.ct.entries.get c).token) ∧
      (∀ n < 12, ∀ c : Chan, c = s.blc.slotPointer + Fin.ofNat 12 (n + 1) →
        (s.ct.entries.get c).pending = true → (s.ct.entries.get c).held = false →
        (∀ k < n, ∀ c' : Chan, c' = s.blc.slotPointer + Fin.ofNat 12 (k + 1) →
          (s.ct.entries.get c').pending = false ∨ (s.ct.entries.get c').held = true) →
        d.slot = some ⟨c, (s.ct.entries.get c).generation, (s.ct.entries.get c).record⟩ ∧
        t = { s with
          barrier := { s.barrier with drive := some d }
          blc := { s.blc with slotPointer := c }
          ct := { s.ct with
            entries := s.ct.entries.set c
              { s.ct.entries.get c with
                doubt := (s.ct.entries.get c).doubt ||| BitVec.twoPow 8 (s.ct.entries.get c).generation.toNat } } }) ∧
      ((∀ c, (s.ct.entries.get c).pending = false ∨ (s.ct.entries.get c).held = true) →
        d.slot = none ∧ t = { s with barrier := { s.barrier with drive := some d } })) ∧
    (s.runs = true → s.blc.goodTaken = true → s.ru.timer = none → (∀ c, (s.ct.entries.get c).countdown = none) →
      s.hlk.timeout = 0 → s.ce.engine = .idle →
      exec (.barrierCycleStart []) s =
        .next ({ s with
          blc := { s.blc with time := s.blc.time + 1, goodTaken := false }
          barrier := ⟨s.barrier.drive, [], s.barrier.status⟩ } : State).sendFrame)

/-- The Barrier Link Controller takes a good status frame (R65, R71 to R74, R78 to R80): the counts and flags, then the link state by the
first step that applies: a field restart, or WAITING or SAFE shown in UP or DEGRADED, or LOST, leads to SYNCING with the sync
count 0; in SYNCING eight frames in a row with the boot flag clear and no channel pending end it; a quality count of 16 or less
returns DEGRADED to UP. A frame whose echoed cycle number is not the present one, or a second one in a cycle, does nothing.
Which of the frames under way is taken is an operand (log entry 6). That a frame which confirms the record of a CONFIGURE_CHANNEL
taken in SYNCING since the frame before it counts toward the eight is the model's choice (log entry 25). -/
def Obligations.GoodStatusFrameLinkState : Prop :=
  ∀ (s : State) (k : Nat) (f : StatusFrame), s.runs = true → (s.barrier.late ++ s.barrier.status)[k]? = some f →
    (f.cycle ≠ s.blc.time.setWidth 8 ∨ s.blc.goodTaken = true → exec (.goodStatusFrameTaken k) s = .next s) ∧
    (f.cycle = s.blc.time.setWidth 8 → s.blc.goodTaken = false →
      ∃ t, exec (.goodStatusFrameTaken k) s = .next t ∧
        t.blc.misses = 0 ∧ t.blc.quality = s.blc.quality - 1 ∧ t.blc.goodTaken = true ∧
        t.blc.time = s.blc.time ∧ t.blc.slotPointer = s.blc.slotPointer ∧
        t.blc.controlBoot = (s.blc.controlBoot && !f.boot) ∧ t.blc.mirrorBoot = f.boot ∧ t.blc.mirrorMode = f.mode ∧
        t.blc.fieldBootSeen = decide (f.boot = true ∧ (s.blc.fieldBootSeen = true ∨ s.blc.mirrorBoot = false)) ∧
        (if f.boot = true ∧ s.blc.mirrorBoot = false then t.blc.link = .syncing ∧ t.blc.sync = 0
         else if (s.blc.link = .up ∨ s.blc.link = .degraded) ∧ f.mode ≠ .active then t.blc.link = .syncing ∧ t.blc.sync = 0
         else if s.blc.link = .lost then t.blc.link = .syncing ∧ t.blc.sync = 0
         else if s.blc.link = .syncing then
           (if f.boot = false ∧ ∀ c, (t.ct.entries.get c).pending = false then
              t.blc.sync = s.blc.sync + 1 ∧
              t.blc.link = (if s.blc.sync + 1 < 8 then .syncing else if t.blc.quality < 64 then .up else .degraded)
            else t.blc.sync = 0 ∧ t.blc.link = .syncing)
         else t.blc.sync = s.blc.sync ∧
           t.blc.link = (if s.blc.link = .degraded ∧ t.blc.quality ≤ 16 then .up else s.blc.link)))

/-- The Channel Table takes a good status frame in which no field restart is detected (R30, R36, R44, R83, R110, R111, R119, R120, R122): the
mirrors are the frame's, every doubt set is empty, a held channel is released, a pending channel whose generation the field side
shows is confirmed, and one that it does not show any more is pending again under an advanced generation; while the comparison is
armed a changed counter sets its latch. The events are raised channel by channel in ascending order: FAULT_SET for the changed
counters whose latches were clear, then the protection event, then CONFIG_APPLIED; after them SUPPLY, then BARRIER. Nothing else
changes but the link's own state (GoodStatusFrameLinkState) and a command that waits (WaitEnds). The frames under way before the one
taken are lost and the later ones stay: which frames are under way is the model's choice (log entry 6). The Channel Table is sound, as
every step keeps it: an unsound held channel need not be pending. -/
def Obligations.GoodStatusFrameTaken : Prop :=
  ∀ (s : State) (k : Nat) (f : StatusFrame), s.runs = true → (s.barrier.late ++ s.barrier.status)[k]? = some f →
    f.cycle = s.blc.time.setWidth 8 → s.blc.goodTaken = false → (f.boot = false ∨ s.blc.mirrorBoot = true) →
    s.ct.Sound →
    ∃ t, exec (.goodStatusFrameTaken k) s = .next t ∧
      t.ct = { s.ct with
        band := f.band
        entries := Table.ofFn fun c =>
          let e := s.ct.entries.get c
          let m := f.channels.get c
          let e1 : ChannelEntry := { e with
            mirror := m, baseline := m.counters, doubt := 0, held := false,
            latched := PerKind.ofFn fun j =>
              e.latched.get j || (s.ct.armed && decide (e.baseline.get j ≠ m.counters.get j)) }
          if e.held = true then
            (if m.applied = some e.generation then { e1 with generation := e1.advance.generation } else e1)
          else if e.pending = true then { e1 with pending := decide (m.applied ≠ some e.generation) }
          else if m.applied = some e.generation then e1
          else { e1 with pending := true, generation := e1.advance.generation } } ∧
      t.ru = s.ru.takeAll s.blc.time
        ((allChans.flatMap fun c =>
            let e := s.ct.entries.get c
            let m := f.channels.get c
            let trip := e.baseline.overcurrent ≠ m.counters.overcurrent ∨ e.baseline.overtemp ≠ m.counters.overtemp
            let cause := if e.baseline.overtemp ≠ m.counters.overtemp then TripCause.overtemp else TripCause.overcurrent
            (if s.ct.armed = true then
              (([.overcurrent, .overtemp, .openOn, .openOff, .shortSupply].filter fun j =>
                  decide (e.baseline.get j ≠ m.counters.get j ∧ e.latched.get j = false)).map (Event.faultSet c))
              ++ (if e.mirror.protection = .locked ∧ m.protection ≠ .locked then [Event.unlocked c]
                  else if m.protection = .locked ∧ (e.mirror.protection ≠ .locked ∨ trip) then [Event.locked c cause]
                  else if m.protection = .cooldown ∧ (e.mirror.protection ≠ .cooldown ∨ trip) then
                    [Event.retry c m.retry cause]
                  else [])
             else [])
            ++ (if e.pending = true ∧ e.held = false ∧ m.applied = some e.generation then
                  [Event.configApplied c e.generation] else []))
          ++ (if s.ct.band = f.band then [] else [Event.supply s.ct.band f.band])
          ++ (if s.blc.link = t.blc.link then [] else [Event.barrier s.blc.link t.blc.link])) ∧
      t.barrier = ⟨s.barrier.drive, s.barrier.status.drop (k + 1 - s.barrier.late.length), s.barrier.late.drop (k + 1)⟩ ∧
      t.field = s.field ∧ t.aq = s.aq ∧ t.mc = s.mc ∧ t.held = s.held ∧ t.lastCause = s.lastCause ∧ t.pending = s.pending ∧
      ((∀ w, s.ce.engine ≠ .waiting w) → t.hlk = s.hlk ∧ t.ce = s.ce)

/-- A field restart is detected (R30, R31, R41, R79, R82, R110, R112, R122): FIELD_RESTART carries the frame's cause, and SUPPLY and BARRIER
follow it; every channel is pending again under an advanced generation with an empty doubt set, its token and its echo are 0, and its
baselines are the frame's counters without a fault event and without a latch; the comparison is armed. A hold ends first, with an
advance of its own if the frame shows the configured generation applied, and the replay then advances once more. Nothing else changes
but the link's own state (GoodStatusFrameLinkState) and a command that waits (WaitEnds). The frames under way before the one taken are
lost and the later ones stay: which frames are under way is the model's choice (log entry 6). That the band mirror is the band of the
frame, and not DROPOUT whatever the frame shows, is the model's choice (log entry 27). -/
def Obligations.FieldRestartReplays : Prop :=
  ∀ (s : State) (k : Nat) (f : StatusFrame), s.runs = true → (s.barrier.late ++ s.barrier.status)[k]? = some f →
    f.cycle = s.blc.time.setWidth 8 → s.blc.goodTaken = false → f.boot = true → s.blc.mirrorBoot = false →
    ∃ t, exec (.goodStatusFrameTaken k) s = .next t ∧
      t.ct = { s.ct with band := f.band, armed := true, entries := t.ct.entries } ∧
      (∀ (c : Chan) (ended g : Gen),
        ended = (if (s.ct.entries.get c).held = true ∧ (f.channels.get c).applied = some (s.ct.entries.get c).generation
          then (s.ct.entries.get c).generation + 1 else (s.ct.entries.get c).generation) →
        g = (if (f.channels.get c).applied = some (ended + 1) then ended + 2 else ended + 1) →
        t.ct.entries.get c =
          { s.ct.entries.get c with
            generation := g, pending := true, doubt := 0, held := false, token := 0,
            mirror := { f.channels.get c with token := 0 }, baseline := (f.channels.get c).counters } ∧
        (f.channels.get c).applied ≠ some g) ∧
      t.ru = s.ru.takeAll s.blc.time
        ([.fieldRestart f.cause] ++ (if s.ct.band = f.band then [] else [.supply s.ct.band f.band])
          ++ (if s.blc.link = .syncing then [] else [.barrier s.blc.link .syncing])) ∧
      t.barrier = ⟨s.barrier.drive, s.barrier.status.drop (k + 1 - s.barrier.late.length), s.barrier.late.drop (k + 1)⟩ ∧
      t.field = s.field ∧ t.aq = s.aq ∧ t.mc = s.mc ∧ t.held = s.held ∧ t.lastCause = s.lastCause ∧ t.pending = s.pending ∧
      ((∀ w, s.ce.engine ≠ .waiting w) → t.hlk = s.hlk ∧ t.ce = s.ce)

/-- The advance of a configured generation (R31). The new generation is the first value after the present one, counting upward modulo 8,
that is neither the mirrored applied generation nor a member of the doubt set, and the held flag stays as it is; an absent applied
generation excludes no value; if every value other than the present one is excluded, it is the first that is not the mirrored
applied generation, and the channel becomes held. With an empty doubt set, or one that holds at most the present generation, and
the present generation applied, the advance is by one. The three examples of the rule; and a held channel takes no slot. -/
def Obligations.GenerationAdvance : Prop :=
  (∀ (e : ChannelEntry) (n : Nat), 0 < n → n < 8 →
    let out (g : Gen) : Prop := e.mirror.applied = some g ∨ e.doubt.getLsbD g.toNat = true
    (¬ out (e.generation + BitVec.ofNat 3 n) → (∀ k, 0 < k → k < n → out (e.generation + BitVec.ofNat 3 k)) →
      e.advance = { e with generation := e.generation + BitVec.ofNat 3 n }) ∧
    ((∀ k, 0 < k → k < 8 → out (e.generation + BitVec.ofNat 3 k)) →
      e.mirror.applied ≠ some (e.generation + BitVec.ofNat 3 n) →
      (∀ k, 0 < k → k < n → e.mirror.applied = some (e.generation + BitVec.ofNat 3 k)) →
      e.advance = { e with generation := e.generation + BitVec.ofNat 3 n, held := true })) ∧
  (∀ e : ChannelEntry, e.mirror.applied = some e.generation →
    (∀ g : Gen, e.doubt.getLsbD g.toNat = true → g = e.generation) →
    e.advance = { e with generation := e.generation + 1 }) ∧
  (∀ e : ChannelEntry, e.mirror.applied = some 3 →
    (e.generation = 3 → e.doubt = 0 → e.advance = { e with generation := 4 }) ∧
    (e.generation = 4 → e.doubt = 0b00010000#8 → e.advance = { e with generation := 5 }) ∧
    (e.generation = 2 → e.doubt = 0b11110111#8 → e.advance = { e with generation := 4, held := true })) ∧
  (∀ (t : ChannelTable) (p c : Chan), t.nextSlot p = some c → (t.entries.get c).held = false)

/-! ## NSTOP, host silence and the Action Queue -/

/-- NSTOP (R54, R55, R56, R106, R123). The pin moves: the 5 µs filter runs while the level differs from the recognised one. The filter ends LOW:
every demand is OFF, every hold countdown is cancelled, the Action Queue is flushed, and QUEUE_FLUSHED (if an entry was removed)
and STOP are raised. It ends HIGH: STOP is raised and no demand is restored. NSTOP_ASSERTION and NSTOP_RELEASE are those two ends
by name, and a filter that does not run does nothing (the model's reading of the three rows, log entry 12). -/
def Obligations.NstopRecognised : Prop :=
  ∀ s : State, s.runs = true →
    (∀ l, l ≠ s.ct.nstopPin → exec (.nstopPinChange l) s =
      .next { s with ct := { s.ct with nstopPin := l, nstopFilter := decide (l ≠ s.ct.nstop) } }) ∧
    exec (.nstopPinChange s.ct.nstopPin) s = .next s ∧
    (s.ct.nstopFilter = true → s.ct.nstopPin = .low →
      exec .nstopAssertion s = exec .nstopFilterExpiry s ∧ exec .nstopRelease s = .next s ∧
      exec .nstopFilterExpiry s =
        .next { s with
          ct := { s.ct with
            demand := 0, nstop := .low, nstopFilter := false,
            entries := Table.ofFn fun c => { s.ct.entries.get c with countdown := none } }
          aq := []
          ru := s.ru.takeAll s.blc.time
            ((if s.aq = [] then [] else [.queueFlushed .stop s.aq.length]) ++ [.stop .asserted]) }) ∧
    (s.ct.nstopFilter = true → s.ct.nstopPin = .high →
      exec .nstopRelease s = exec .nstopFilterExpiry s ∧ exec .nstopAssertion s = .next s ∧
      exec .nstopFilterExpiry s =
        .next { s with
          ct := { s.ct with nstop := .high, nstopFilter := false }
          ru := s.ru.take s.blc.time (.stop .released) }) ∧
    (s.ct.nstopFilter = false →
      exec .nstopAssertion s = .next s ∧ exec .nstopRelease s = .next s ∧ exec .nstopFilterExpiry s = .next s)

/-- Host silence begins (R58, R106, R123, R170, R171) when the silence count has reached the timeout: the demand of every channel whose fail action
is OFF is OFF, a channel whose fail action is HOLD and whose demand is ON keeps it and starts its countdown of 200 cycles for each
10 ms of its hold time, the Action Queue is flushed, and QUEUE_FLUSHED (if an entry was removed) and HOST_SILENT are raised. A hold
countdown that has reached 0 sets its channel's demand OFF and ends (R59). Out of these conditions nothing changes. -/
def Obligations.HostSilenceAndHolds : Prop :=
  ∀ s : State, s.runs = true →
    (s.hlk.timeout ≠ 0 → s.ct.hostSilent = false → 200 * s.hlk.timeout.toNat ≤ s.hlk.silence →
      ∃ demand : ChanSet,
        (∀ c : Chan, demand.getLsbD c.val =
          decide (s.ct.demand.getLsbD c.val = true ∧ (s.ct.entries.get c).record.failAction = .hold)) ∧
        exec .silenceTimeout s =
          .next { s with
            ct := { s.ct with
              hostSilent := true, demand := demand,
              entries := Table.ofFn fun c =>
                if demand.getLsbD c.val = true then
                  { s.ct.entries.get c with countdown := some (200 * (s.ct.entries.get c).record.holdTime) }
                else s.ct.entries.get c }
            aq := []
            ru := s.ru.takeAll s.blc.time
              ((if s.aq = [] then [] else [.queueFlushed .hostSilent s.aq.length]) ++ [.hostSilent .begins]) }) ∧
    (s.hlk.timeout = 0 ∨ s.ct.hostSilent = true ∨ s.hlk.silence < 200 * s.hlk.timeout.toNat →
      exec .silenceTimeout s = .next s) ∧
    (∀ c : Chan, (s.ct.entries.get c).countdown = some 0 →
      exec (.holdCountdownExpiry c) s =
        .next { s with
          ct := { s.ct with
            demand := s.ct.demand &&& ~~~(BitVec.twoPow 12 c.val)
            entries := s.ct.entries.set c { s.ct.entries.get c with countdown := none } } }) ∧
    (∀ c : Chan, (s.ct.entries.get c).countdown ≠ some 0 → exec (.holdCountdownExpiry c) s = .next s)

/-- The AT_TIME entries whose due time is reached are applied (R91 to R93, R97 to R100): each writes its states in queue order and raises
ACTION_APPLIED; the entries that are not due stay as they stood; each MAIN entry with a revert delay leaves its REVERT entry, due
after that delay, with the states its channels had immediately before it, the entries applied before it included; that entry takes
its place in queue order, nothing else joins the queue, and no entry left in it is due. The queue is sound, as every step keeps
it. -/
def Obligations.DueEntriesApplied : Prop :=
  ∀ (s : State) (due : List Action), s.runs = true → QueueSound s.aq →
    due = (s.aq.filter fun a => match a.trigger with
      | .atTime d => decide ((s.blc.time - d).toNat < 2147483648)
      | .atMark => false) →
    ∃ q : List Action,
      exec .atTimeEntriesDue s =
        .next { s with
          ct := { s.ct with
            demand := due.foldl (fun d a => (d &&& ~~~a.channels) ||| (a.states &&& a.channels)) s.ct.demand }
          aq := q
          ru := s.ru.takeAll s.blc.time (due.map fun a => .actionApplied a.tag a.phase a.channels) } ∧
      AfterApplying s.blc.time s.ct.demand due s.aq q ∧
      (∀ a ∈ q, ∀ d, a.trigger = .atTime d → 2147483648 ≤ (s.blc.time - d).toNat) ∧
      (due = [] → q = s.aq)

/-! ## Mark Capture -/

/-- The edge recogniser (R148, R149): a fall from HIGH begins the filtering, a rise returns the recogniser to HIGH from any state, and
the spacing timer that runs out stops. A fall of a low pin and a rise of a high one do not come about (log entry 2). -/
def Obligations.MarkPinEdges : Prop :=
  ∀ s : State, s.runs = true → s.mc.Sound true →
    (s.mc.pin = .high →
      exec .markFall s = .next { s with mc := { s.mc with pin := .low, recogniser := .filtering } } ∧
      exec .markRise s = .next s) ∧
    (s.mc.pin = .low →
      exec .markRise s = .next { s with mc := { s.mc with pin := .high, recogniser := .high } } ∧
      exec .markFall s = .next s) ∧
    (s.mc.spacing = true → exec .spacingTimerExpiry s = .next { s with mc := { s.mc with spacing := false } }) ∧
    (s.mc.spacing = false → exec .spacingTimerExpiry s = .next s)

/-- The falling edge is complete (R101, R148 to R153): within the spacing time it is ignored; otherwise the spacing timer starts, the
snapshot of TABLE 53 is captured under the capture number, which then advances modulo 65,536, and with automatic reporting on it
is placed in the slot, where an overwrite of a snapshot not yet sent is counted up to 255; then every AT_MARK entry is applied
in the order of the queue, and each MAIN entry with a revert delay leaves its AT_TIME REVERT entry, due that delay after the edge
(R98, R99). Out of FILTERING nothing happens. -/
def Obligations.MarkEdgeCaptured : Prop :=
  ∀ s : State, s.runs = true →
    (s.mc.recogniser = .filtering → s.mc.spacing = true →
      exec .markFilterExpiry s = .next { s with mc := { s.mc with recogniser := .low } }) ∧
    (s.mc.recogniser = .filtering → s.mc.spacing = false →
      ∀ (overwrites : Nat) (p : Snapshot) (marks : List Action),
        overwrites = (if s.mc.auto = false then 0 else if s.mc.slot = none then s.mc.overwrites
          else if s.mc.overwrites < 255 then s.mc.overwrites + 1 else 255) →
        p = ⟨s.mc.capture, s.blc.time, overwrites, s.blc.link, s.ct.band, s.ct.demand,
          Table.ofFn fun c => (s.ct.entries.get c).mirror.protection, Table.ofFn fun c => (s.ct.entries.get c).latched⟩ →
        marks = s.aq.filter (fun a => decide (a.trigger = .atMark)) →
        ∃ q : List Action,
          exec .markFilterExpiry s =
            .next { s with
              mc := { s.mc with
                recogniser := .low, spacing := true, capture := s.mc.capture + 1, last := some p,
                slot := if s.mc.auto = true then some p else s.mc.slot,
                overwrites := if s.mc.auto = true then overwrites else s.mc.overwrites }
              ct := { s.ct with
                demand := marks.foldl (fun d a => (d &&& ~~~a.channels) ||| (a.states &&& a.channels)) s.ct.demand }
              aq := q
              ru := s.ru.takeAll s.blc.time (marks.map fun a => .actionApplied a.tag a.phase a.channels) } ∧
          (QueueSound s.aq → AfterApplying s.blc.time s.ct.demand marks s.aq q ∧ ∀ a ∈ q, a.trigger ≠ .atMark) ∧
          (marks = [] → q = s.aq)) ∧
    (s.mc.recogniser ≠ .filtering → exec .markFilterExpiry s = .next s)

/-! ## The Host Link: receiver, routing and transmit arbiter -/

/-- The receiver assembles every frame (R158, R159, TABLE 65): fed from HUNT with the bytes of a frame of up to 60 payload bytes, it goes on
until the last byte of the CRC, and that byte makes exactly that frame valid; any other two bytes in the places of the CRC, the first,
the second or both of them wrong, make it discard the frame for its CRC at the second. A character with a stop-bit error outside HUNT makes it discard the frame for its framing, and a LEN above 60, as soon as it is
received, for its length (R160); a LEN of up to 60 does not. That the receiver takes characters whole is the model's choice (log
entry 13). -/
def Obligations.ReceiverAssemblesEveryFrame : Prop :=
  (∀ f : Frame, f.payload.length ≤ 60 →
    ∃ r : Receiver, Receiver.hunt.feed f.bytes.dropLast = some r ∧
      r.take ⟨f.bytes.getLastD 0, false⟩ = .valid f ∧
      (∀ b, b ≠ f.bytes.getLastD 0 → r.take ⟨b, false⟩ = .discards .crc) ∧
      (∀ b, r.take ⟨b, true⟩ = .discards .framing)) ∧
  (∀ (f : Frame) (h l : Byte), f.payload.length ≤ 60 → h ++ l ≠ f.crc →
    ∃ r : Receiver, Receiver.hunt.feed (f.bytes.take (f.payload.length + 4) ++ [h]) = some r ∧
      r.take ⟨l, false⟩ = .discards .crc) ∧
  (∀ (r : Receiver) (b : Byte), r.phase ≠ .hunt → r.take ⟨b, true⟩ = .discards .framing) ∧
  (∃ r : Receiver, Receiver.hunt.feed [0xC3] = some r ∧
    ∀ b : Byte, (60 < b.toNat → r.take ⟨b, false⟩ = .discards .length) ∧
      (b.toNat ≤ 60 → ∃ r', r.take ⟨b, false⟩ = .goesOn r')) ∧
  (∀ b : Byte, (∃ r, Receiver.hunt.feed [0xC3, b] = some r) ↔ b.toNat ≤ 60) ∧
  (∀ (b : Byte) (e : Bool), (b ≠ 0xC3 ∨ e = true) → Receiver.hunt.take ⟨b, e⟩ = .goesOn Receiver.hunt)

/-- Characters at the receiver (R157, R159, R160, R161). A character on RXD has ten bit times: a low start bit, eight data bits, the least
significant first, and a stop bit, whose low level is a stop-bit error; after a break, a character of all zero bits with a stop-bit
error, none is received until RXD has returned high. A character that neither completes nor breaks a frame changes the receiver alone;
one that breaks it, and a gap timer that reaches its length, return the receiver to HUNT and raise RX_ERROR with the reason if the
error report flag is armed, which disarms it. A row whose character does something else, or is not received, has no effect (log entry
2). That characters come whole, and what of a low level is a break, is the model's choice (log entry 13), and so are the values that the
receiver holds unread in HUNT (log entry 26). -/
def Obligations.CharactersAtTheReceiver : Prop :=
  (∀ (h : HostLink) (l : RxLine),
    (h.receives l = none ↔ l.levels.getLsbD 0 = true ∨ (h.broken = true ∧ l.wasHigh = false)) ∧
    ∀ ch, h.receives l = some ch →
      (∀ i < 8, ch.byte.getLsbD i = l.levels.getLsbD (i + 1)) ∧ ch.stopError = !l.levels.getLsbD 9) ∧
  ∀ (s : State) (l : RxLine), s.runs = true →
    (s.hlk.receives l = none →
      exec (.characterReceived l) s = .next s ∧ exec (.rxFrameDiscard l) s = .next s ∧
      exec (.ackFrameReceived l) s = .next s ∧ exec (.commandFrameReceived l) s = .next s) ∧
    (∀ ch, s.hlk.receives l = some ch →
      (∀ r, s.hlk.rx.take ch = .goesOn r →
        exec (.characterReceived l) s =
          .next { s with hlk := { s.hlk with rx := r, broken := decide (ch.byte = 0 ∧ ch.stopError = true) } } ∧
        exec (.rxFrameDiscard l) s = .next s ∧ exec (.ackFrameReceived l) s = .next s ∧
        exec (.commandFrameReceived l) s = .next s) ∧
      (∀ reason, s.hlk.rx.take ch = .discards reason →
        exec (.rxFrameDiscard l) s =
          .next { s with
            hlk := { s.hlk with
              rx := Receiver.hunt, broken := decide (ch.byte = 0 ∧ ch.stopError = true), errorArmed := false }
            ru := if s.hlk.errorArmed = true then s.ru.take s.blc.time (.rxError reason) else s.ru } ∧
        exec (.characterReceived l) s = .next s ∧ exec (.ackFrameReceived l) s = .next s ∧
        exec (.commandFrameReceived l) s = .next s) ∧
      (∀ f, s.hlk.rx.take ch = .valid f →
        exec (.characterReceived l) s = .next s ∧ exec (.rxFrameDiscard l) s = .next s ∧
        (f.kind ≠ 0x60 → exec (.ackFrameReceived l) s = .next s) ∧
        (f.kind = 0x60 → exec (.commandFrameReceived l) s = .next s))) ∧
    (s.hlk.rx.gap = true →
      exec .rxGapTimeout s =
        .next { s with
          hlk := { s.hlk with rx := Receiver.hunt, errorArmed := false }
          ru := if s.hlk.errorArmed = true then s.ru.take s.blc.time (.rxError .gap) else s.ru }) ∧
    (s.hlk.rx.gap = false → exec .rxGapTimeout s = .next s)

/-- A valid ACK frame (R60, R162, R170, R171): with LEN 2 its number goes to the Report Unit at once, with any other LEN it does not; in
either case it arms the error report flag, sets the silence count to 0 and ends host silence, which clears the hold countdowns
and raises HOST_SILENT END. That the Report Unit takes the number before the end of silence is the model's choice (log entry
14), and so are the values that the receiver holds unread in HUNT (log entry 26). -/
def Obligations.AckFrameReceived : Prop :=
  ∀ (s : State) (l : RxLine) (ch : RxChar) (f : Frame) (u : ReportUnit), s.runs = true → s.hlk.receives l = some ch →
    s.hlk.rx.take ch = .valid f → f.kind = 0x60 →
    (∀ x y, f.payload = [x, y] → u = s.ru.ack s.blc.time (x ++ y)) →
    (f.payload.length ≠ 2 → u = s.ru) →
    (s.ct.hostSilent = false →
      exec (.ackFrameReceived l) s =
        .next { s with
          hlk := { s.hlk with rx := Receiver.hunt, broken := false, errorArmed := true, silence := 0 }
          ru := u }) ∧
    (s.ct.hostSilent = true →
      exec (.ackFrameReceived l) s =
        .next { s with
          hlk := { s.hlk with rx := Receiver.hunt, broken := false, errorArmed := true, silence := 0 }
          ct := { s.ct with
            hostSilent := false
            entries := Table.ofFn fun c => { s.ct.entries.get c with countdown := none } }
          ru := u.take s.blc.time (.hostSilent .ends) })

/-- The Report Unit takes an ACK (R144): the distance d is the number less the head number, modulo 65,536, and k is the number of
records. At 0 nothing changes; from 1 to k with none of the d oldest records in NEW these are removed, the timer is restarted or
stopped, and OVERFLOW records of up to 65,535 losses each are made while a pending loss is left and the queue has room (R138), under
the next sequence numbers; in any other case the ACK is ignored whole. With the three runs in order, the test of step 2 holds when d
is not greater than the number of records in SENT and RESEND. No command but an ACK frame and the ends of a control reset removes a
record. -/
def Obligations.AckTaken : Prop :=
  (∀ (u : ReportUnit) (now : PartTime) (n : Half) (d k : Nat),
    d = (n - (match u.queue with
      | [] => u.next
      | r :: _ => r.seq)).toNat → k = u.queue.length →
    (d = 0 → u.ack now n = u) ∧
    (1 ≤ d → d ≤ k → (∀ r ∈ u.queue.take d, r.delivery ≠ .new) →
      ∀ made : Nat, made = min ((u.loss + 65534) / 65535) (32 - (k - d)) →
        u.ack now n =
          { u with
            queue := u.queue.drop d ++ (List.range made).map fun i =>
              ⟨u.next + BitVec.ofNat 16 i, now, .overflow (min 65535 (u.loss - 65535 * i)), .new⟩
            next := u.next + BitVec.ofNat 16 made
            loss := u.loss - 65535 * made
            timer := if ∃ r ∈ u.queue.drop d, r.delivery = .sent then some 0 else none }) ∧
    (1 ≤ d → d ≤ k → (∃ r ∈ u.queue.take d, r.delivery = .new) → u.ack now n = u) ∧
    (k < d → u.ack now n = u) ∧
    (u.Sound → 1 ≤ d → d ≤ k →
      ((∀ r ∈ u.queue.take d, r.delivery ≠ .new) ↔ d ≤ u.countIn .sent + u.countIn .resend))) ∧
  (∀ (c : Instr) (s t : State), (∀ l, c ≠ .ackFrameReceived l) → (∀ p, c ≠ .controlResetEnd p) →
    (∀ p f, c = .transmissionComplete p → s.hlk.txd ≠ .sending ⟨f, true⟩) → exec c s = .next t →
    ∃ more, t.ru.queue.map ReportRecord.seq = s.ru.queue.map ReportRecord.seq ++ more)

/-- A valid frame that is no ACK (R162, R163, R170, R171, R178): with a free place it joins the inbound queue, arms the error report flag
and, out of silence, sets the silence count to 0; with 4 frames in the queue it is dropped, which raises RX_ERROR with reason
DROPPED if the flag is armed, places a BUSY notice if the response queue holds 2 or fewer frames, and ends host silence or sets
the count to 0. The order of these parts of a drop is the model's choice (log entry 14); a BUSY notice and a REPORT frame that come at
one moment with TXD idle may go in either order (log entry 24). The values that the receiver holds unread in HUNT are the model's
choice (log entry 26). -/
def Obligations.CommandFrameReceived : Prop :=
  ∀ (s : State) (l : RxLine) (ch : RxChar) (f : Frame), s.runs = true → s.hlk.receives l = some ch →
    s.hlk.rx.take ch = .valid f → f.kind ≠ 0x60 →
    (s.hlk.inbound.length < 4 →
      exec (.commandFrameReceived l) s =
        .next { s with
          hlk := { s.hlk with
            rx := Receiver.hunt, broken := false, errorArmed := true, inbound := s.hlk.inbound ++ [f]
            silence := if s.ct.hostSilent = true then s.hlk.silence else 0 } }) ∧
    (4 ≤ s.hlk.inbound.length →
      ∀ (h : HostLink) (u : ReportUnit),
        h = { s.hlk with
          rx := Receiver.hunt, broken := false, errorArmed := false, silence := 0
          responses := if s.hlk.responses.length ≤ 2 then
            s.hlk.responses ++ [⟨⟨f.seq, 0xEF, [0x03, f.kind]⟩, false⟩] else s.hlk.responses } →
        u = (if s.hlk.errorArmed = true then s.ru.take s.blc.time (.rxError .dropped) else s.ru) →
        (s.ct.hostSilent = false →
          exec (.commandFrameReceived l) s = .next (({ s with hlk := h, ru := u } : State).tiedFrom s)) ∧
        (s.ct.hostSilent = true →
          exec (.commandFrameReceived l) s =
            .next (({ s with
              hlk := h
              ct := { s.ct with
                hostSilent := false
                entries := Table.ofFn fun c => { s.ct.entries.get c with countdown := none } }
              ru := u.take s.blc.time (.hostSilent .ends) } : State).tiedFrom s)))

/-- The transmit arbiter (R154, R157, R158, R168, R169, R172, R173, R193): with TXD idle it takes the head of the response queue; with no
response waiting it forms the SNAPSHOT frame of 35 payload bytes (TABLE 74) from the slot, which is emptied and whose overwrite count
becomes 0; a frame that answers no command carries and advances the unsolicited frame count. A response placed and a REPORT frame
offered at one moment, while TXD is idle and nothing waits, are noted, and only then may the REPORT frame be taken while a response
waits. With TXD busy it takes nothing. The frame is sent byte after byte, each in a character of a low start bit, eight data bits with
the least significant first, and a high stop bit; otherwise TXD is high. The last stop bit makes TXD idle, and at the end of a
SOFT_RESET response makes the control reset of cause COMMAND; the quiet time ends in TXD idle. How the model notes that moment is its
choice (log entry 24), and that no break is in force and the status frames under way stay after the control reset are others (log
entries 13 and 6). -/
def Obligations.TransmitArbiter : Prop :=
  (∀ s t : State, t.tiedFrom s = { t with
    hlk := { t.hlk with
      tie := t.hlk.tie || decide (s.hlk.txd = .idle ∧ s.hlk.responses = [] ∧ s.mc.slot = none ∧ s.ru.offered = 0 ∧
        t.hlk.responses ≠ [] ∧ 0 < t.ru.offered) } }) ∧
  (∀ b : Byte, (characterLevels b).getLsbD 0 = false ∧ (characterLevels b).getLsbD 9 = true ∧
    ∀ i < 8, (characterLevels b).getLsbD (i + 1) = b.getLsbD i) ∧
  ∀ s : State,
    (∀ x, s.hlk.txd = .sending x → s.txdCharacters = x.frame.bytes.map characterLevels) ∧
    ((∀ x, s.hlk.txd ≠ .sending x) → s.txdCharacters = []) ∧
    (s.runs = true →
    (s.hlk.txd = .idle → ∀ x rest, s.hlk.responses = x :: rest →
      exec .responseTakenForTransmission s =
        .next { s with hlk := { s.hlk with responses := rest, txd := .sending x, tie := false } } ∧
      exec .snapshotFrameFormed s = .next s ∧ (s.hlk.tie = false → exec .reportFrameFormed s = .next s)) ∧
    (s.hlk.txd = .idle → s.hlk.responses = [] → exec .responseTakenForTransmission s = .next s ∧
      (s.mc.slot = none → exec .snapshotFrameFormed s = .next s) ∧
      ∀ p, s.mc.slot = some p →
        exec .reportFrameFormed s = .next s ∧
        exec .snapshotFrameFormed s =
          .next { s with
            mc := { s.mc with slot := none, overwrites := 0 }
            hlk := { s.hlk with
              unsolicited := s.hlk.unsolicited + 1
              tie := false
              txd := .sending
                ⟨⟨s.hlk.unsolicited, 0xE1,
                  bytes2 p.number ++ bytes4 p.time ++ [byteOf p.overwrites, p.link.code, p.band.code]
                    ++ bytes2 (p.demand.setWidth 16) ++ (allChans.map fun c => (p.protections.get c).code)
                    ++ (allChans.map fun c => kindsByte (p.latched.get c))⟩, false⟩ } }) ∧
    (s.hlk.txd ≠ .idle →
      exec .responseTakenForTransmission s = .next s ∧ exec .snapshotFrameFormed s = .next s ∧
      exec .reportFrameFormed s = .next s) ∧
    (∀ (f : Frame) (straps : BitVec 2), s.hlk.txd = .sending ⟨f, false⟩ →
      exec (.transmissionComplete straps) s = .next { s with hlk := { s.hlk with txd := .idle } }) ∧
    (∀ (f : Frame) (straps : BitVec 2), s.hlk.txd = .sending ⟨f, true⟩ →
      ∃ t, exec (.transmissionComplete straps) s = .next t ∧ AfterControlReset t .command straps ∧ t.field = s.field ∧
        t.ct.nstopPin = s.ct.nstopPin ∧ t.mc.pin = s.mc.pin ∧ t.barrier.status = s.barrier.status ∧
        t.barrier.late = s.barrier.late ∧ t.pending = s.pending) ∧
    ((∀ x, s.hlk.txd ≠ .sending x) → ∀ straps, exec (.transmissionComplete straps) s = .next s) ∧
    (s.hlk.txd = .quiet → exec .quietTimeExpiry s = .next { s with hlk := { s.hlk with txd := .idle } }) ∧
    (s.hlk.txd ≠ .quiet → exec .quietTimeExpiry s = .next s))

/-! ## The Report Unit -/

/-- An event is routed (R121, R127 to R130, R134, R136, R137): a mandatory kind is enqueued untested; for a filterable kind the enabled
filter entry of lowest index that holds its kind and its channel, or NONE, decides, and with no such entry the event is enqueued. An
event that is enqueued joins the tail in NEW under the next sequence number; with 32 records in the queue it is lost: it merges
into a newest record that is an OVERFLOW record in NEW below 65,535, and otherwise the pending loss grows by one. -/
def Obligations.EventRouting : Prop :=
  ∀ (u : ReportUnit) (now : PartTime) (e : Event),
    let into (v : ReportUnit) : Prop :=
      (u.queue.length < 32 → v = { u with queue := u.queue ++ [⟨u.next, now, e, .new⟩], next := u.next + 1 }) ∧
      (32 ≤ u.queue.length →
        (∀ (front : List ReportRecord) (seq : Half) (time : PartTime) (n : Nat),
          u.queue = front ++ [⟨seq, time, .overflow n, .new⟩] → n < 65535 →
          v = { u with queue := front ++ [⟨seq, time, .overflow (n + 1), .new⟩] }) ∧
        ((∀ r, u.queue.getLast? = some r → ∀ n < 65535, r.event = .overflow n → r.delivery ≠ .new) →
          v = { u with loss := u.loss + 1 }))
    let chosen (i : Fin 8) : Prop :=
      (u.filter.get i).enabled = true ∧ (u.filter.get i).kinds.getLsbD e.code = true ∧
        match e.channel with
        | some c => (u.filter.get i).channels.getLsbD c.val = true
        | none => (u.filter.get i).noChannel = true
    (e.mandatory = true ↔ e.code ∈ [0, 8, 11, 12, 13, 15]) ∧
    (e.mandatory = true → into (u.take now e)) ∧
    (e.mandatory = false → (∀ i, ¬ chosen i) → into (u.take now e)) ∧
    (∀ i : Fin 8, e.mandatory = false → chosen i → (∀ j < i, ¬ chosen j) →
      ((u.filter.get i).action = .report → into (u.take now e)) ∧
      ((u.filter.get i).action = .drop → u.take now e = u) ∧
      ((u.filter.get i).action = .count →
        u.take now e = { u with
          filter := u.filter.set i
            { u.filter.get i with
              count := if (u.filter.get i).count < 65535 then (u.filter.get i).count + 1 else 65535 } }))

/-- A REPORT frame is formed (R135, R140 to R143, R169, R193): with TXD idle and no snapshot waiting, and with no response waiting or with
one that was placed at the moment at which the REPORT frame was offered (log entry 24), it carries the n oldest records that are not
in SENT, n being the smallest of 4, their number, and 8 less the records in SENT; they are set to SENT, and the retransmission timer
starts if none was. With n at 0 no frame is formed. The retransmission timer that reaches 50 ms moves every
record in SENT to RESEND and stops. The Report Unit is sound, as every step keeps it. -/
def Obligations.ReportsSentAndSentAgain : Prop :=
  ∀ (s : State) (sent n : Nat), s.runs = true → s.ru.Sound →
    sent = s.ru.queue.countP (fun r => decide (r.delivery = .sent)) →
    n = min 4 (min (s.ru.queue.length - sent) (8 - sent)) →
    (s.hlk.txd = .idle → s.hlk.responses = [] ∨ s.hlk.tie = true → s.mc.slot = none → 0 < n →
      exec .reportFrameFormed s =
        .next { s with
          ru := { s.ru with
            queue := s.ru.queue.mapIdx fun i r => if i < sent + n then { r with delivery := .sent } else r
            timer := if sent = 0 then some 0 else s.ru.timer }
          hlk := { s.hlk with
            unsolicited := s.hlk.unsolicited + 1
            tie := false
            txd := .sending
              ⟨⟨s.hlk.unsolicited, 0xE0,
                byteOf n :: ((s.ru.queue.drop sent).take n).flatMap fun r =>
                  bytes2 r.seq ++ bytes4 r.time
                    ++ [byteOf r.event.code, match r.event.channel with
                        | some c => byteOf c.val
                        | none => 0xFF]
                    ++ r.event.detail⟩, false⟩ } }) ∧
    (n = 0 → exec .reportFrameFormed s = .next s) ∧
    (∀ r : ReportRecord, r.bytes.length = 12) ∧
    (s.ru.timer = some 1000 →
      exec .retransmissionTimerExpiry s =
        .next { s with
          ru := { s.ru with
            queue := s.ru.queue.map fun r => if r.delivery = .sent then { r with delivery := .resend } else r
            timer := none } }) ∧
    (s.ru.timer ≠ some 1000 → exec .retransmissionTimerExpiry s = .next s)

/-! ## The Command Engine -/

/-- The Command Engine takes a frame (R60, R164, R165, R167, R177): host silence in force ends first, whatever the frame holds; a frame whose
SEQ and CRC are those of the reply cache is answered with a copy and nothing else changes; a KIND that names no command, a LEN that
is not the command's, and a field value out of range are refused in that order, each with its status alone. Not IDLE, with 4
responses waiting or with no frame waiting, it takes nothing. The response and a REPORT frame with HOST_SILENT that come at one moment
with TXD idle may go in either order (log entry 24). -/
def Obligations.CommandTaken : Prop :=
  (∀ (b : Byte) (k : CommandKind), CommandKind.ofCode b = some k ↔ b = k.code) ∧
  ∀ s : State, s.runs = true →
    (s.ce.engine ≠ .idle ∨ 4 ≤ s.hlk.responses.length ∨ s.hlk.inbound = [] → exec .commandTaken s = .next s) ∧
    (s.ce.engine = .idle → s.hlk.responses.length < 4 → s.hlk.inbound ≠ [] → s.ct.hostSilent = true →
      ∃ t, exec .commandTaken
          { s with
            hlk := { s.hlk with silence := 0 }
            ct := { s.ct with
              hostSilent := false
              entries := Table.ofFn fun c => { s.ct.entries.get c with countdown := none } }
            ru := s.ru.take s.blc.time (.hostSilent .ends) } = .next t ∧
        exec .commandTaken s = .next (t.tiedFrom s)) ∧
    (∀ f r : Frame, s.ce.engine = .idle → s.hlk.responses.length < 4 → s.hlk.inbound.head? = some f →
      s.ct.hostSilent = false → s.ce.cache = some ⟨f.seq, f.crc, r⟩ →
      exec .commandTaken s =
        .next { s with
          hlk := { s.hlk with inbound := s.hlk.inbound.tail, responses := s.hlk.responses ++ [⟨r, false⟩] } }) ∧
    (∀ f : Frame, s.Takes f →
      (CommandKind.ofCode f.kind = none → exec .commandTaken s = .next (s.answered f .badKind [])) ∧
      (∀ k, CommandKind.ofCode f.kind = some k → f.payload.length ≠ k.length →
        exec .commandTaken s = .next (s.answered f .badLength [])) ∧
      (∀ k, CommandKind.ofCode f.kind = some k → f.payload.length = k.length → fieldsOf k f.payload = none →
        exec .commandTaken s = .next (s.answered f .badValue [])))

/-- A row that names a host command is the taking of that command's frame (R164, TABLE 69): with the frame at the head of the inbound queue
it does what COMMAND_TAKEN does, and otherwise nothing. The reading of the rows is the model's (log entry 11). -/
def Obligations.NamedCommandIsItsFrame : Prop :=
  ∀ (c : Instr) (f : Frame) (s : State), commandRow c = some f →
    (s.hlk.inbound.head? = some f → exec c s = exec .commandTaken s) ∧
    (s.hlk.inbound.head? ≠ some f → exec c s = .next s)

/-- PING and READ_STATUS (R179, R180, TABLE 71): each is answered OK with the bytes the table lays out, and changes nothing but what the
taking of a frame changes. The revision letter is free: a statement about it holds for every letter (log entry 4). -/
def Obligations.PingAndReadStatus : Prop :=
  ∀ (s : State) (seq : Byte),
    (s.Takes ⟨seq, 0x01, []⟩ →
      exec (.ping seq) s =
        .next (s.answered ⟨seq, 0x01, []⟩ .ok
          ([0x0B, 0x0C, byteOf (0x41 + Config.revision.val), s.hlk.rate.setWidth 8] ++ bytes4 s.blc.time
            ++ ([match s.lastCause with
                | .power => 1
                | .pin => 2
                | .command => 3] : List Byte)))) ∧
    (s.Takes ⟨seq, 0x02, []⟩ →
      ∀ flags : Byte,
        (flags.toNat = (if s.ct.nstop = .low then 1 else 0) + (if s.ct.hostSilent = true then 2 else 0)
          + (if s.mc.auto = true then 4 else 0) + (if s.nalert = true then 8 else 0)) →
        exec (.readStatus seq) s =
          .next (s.answered ⟨seq, 0x02, []⟩ .ok
            ([s.blc.link.code, byteOf s.blc.quality, s.blc.mirrorMode.code, s.ct.band.code, flags, s.hlk.timeout]
              ++ bytes4 s.blc.time
              ++ [byteOf s.aq.length, byteOf (s.aq.countP fun a => decide (a.phase = .main ∧ a.revert ≠ none)),
                  byteOf (s.ru.queue.countP fun r => decide (r.delivery = .new)),
                  byteOf (s.ru.queue.countP fun r => decide (r.delivery = .sent)),
                  byteOf (s.ru.queue.countP fun r => decide (r.delivery = .resend))]
              ++ bytes4 (BitVec.ofNat 32 (if s.ru.loss < 4294967295 then s.ru.loss else 4294967295))
              ++ bytes2 s.ru.next))) ∧
    (s.nalert = true ↔
      s.runs = false ∨ (∃ (c : Chan) (k : FaultKind), (s.ct.entries.get c).latched.get k = true) ∨
      (∃ c : Chan, (s.ct.entries.get c).mirror.protection = .locked) ∨ s.blc.link ≠ .up ∨ s.ct.band ≠ .normal ∨
      0 < s.ru.loss ∨ (∃ r ∈ s.ru.queue, ∃ n, r.event = .overflow n) ∨ s.ct.hostSilent = true)

/-- SET_OUTPUTS (R86 to R88, R181) and SET_MODE (R152, R170, R192). SET_OUTPUTS is refused with STOPPED while NSTOP is recognised LOW; otherwise
the channels of the mask take their states in one write and the response carries the channels of the mask mirrored LOCKED and the
link flag. SET_MODE writes the timeout and sets the silence count to 0; a change of the automatic-report flag empties the slot and
sets the overwrite count to 0. A mask bit 12 to 15 and a flag other than 0 or 1 are refused with BAD_VALUE. -/
def Obligations.SetOutputsAndSetMode : Prop :=
  ∀ (s : State) (seq : Byte),
    (∀ channels states : Half, s.Takes (setOutputsFrame seq channels states) →
      (4096 ≤ channels.toNat ∨ 4096 ≤ states.toNat →
        exec (.setOutputs seq channels states) s =
          .next (s.answered (setOutputsFrame seq channels states) .badValue [])) ∧
      (channels.toNat < 4096 → states.toNat < 4096 → s.ct.nstop = .low →
        exec (.setOutputs seq channels states) s =
          .next (s.answered (setOutputsFrame seq channels states) .stopped [])) ∧
      (channels.toNat < 4096 → states.toNat < 4096 → s.ct.nstop = .high →
        ∀ (demand locked : ChanSet),
          (∀ c : Chan, demand.getLsbD c.val =
            if channels.getLsbD c.val = true then states.getLsbD c.val else s.ct.demand.getLsbD c.val) →
          (∀ c : Chan, locked.getLsbD c.val =
            decide (channels.getLsbD c.val = true ∧ (s.ct.entries.get c).mirror.protection = .locked)) →
          exec (.setOutputs seq channels states) s =
            .next (({ s with ct := { s.ct with demand := demand } } : State).answered
              (setOutputsFrame seq channels states) .ok
              (bytes2 (locked.setWidth 16) ++ [if s.blc.link = .up ∨ s.blc.link = .degraded then 1 else 0])))) ∧
    (∀ timeout auto : Byte, s.Takes ⟨seq, 0x41, [timeout, auto]⟩ →
      (2 ≤ auto.toNat →
        exec (.setMode seq timeout auto) s = .next (s.answered ⟨seq, 0x41, [timeout, auto]⟩ .badValue [])) ∧
      (auto.toNat < 2 →
        exec (.setMode seq timeout auto) s =
          .next (({ s with
            hlk := { s.hlk with timeout := timeout, silence := 0 }
            mc := if s.mc.auto = decide (auto = 1) then s.mc
              else { s.mc with auto := decide (auto = 1), slot := none, overwrites := 0 } } : State).answered
            ⟨seq, 0x41, [timeout, auto]⟩ .ok [])))

/-- QUEUE_ACTION (R90 to R96, R182). Its fields are checked; then it is refused with STOPPED while NSTOP is recognised LOW, with QUEUE_FULL if
entries and reservations would number more than 16, and with DUPLICATE_TAG if an entry carries its tag; otherwise its MAIN entry
joins the queue before the first entry that comes later in queue order: an AT_TIME entry before every AT_MARK entry and before an
AT_TIME entry whose time remaining is longer, an AT_MARK entry last. -/
def Obligations.QueueActionAccepted : Prop :=
  ∀ (s : State) (seq tag trigger : Byte) (delay : BitVec 32) (channels states : Half) (revert : BitVec 32) (f : Frame),
    f = queueActionFrame seq tag trigger delay channels states revert → s.Takes f →
    let fits : Prop := tag ≠ 0 ∧ (trigger = 0 ∧ 1 ≤ delay.toNat ∧ delay.toNat ≤ 200000 ∨ trigger = 1) ∧ channels ≠ 0 ∧
      channels.toNat < 4096 ∧ states.toNat < 4096 ∧ revert.toNat ≤ 200000
    let places : Nat := s.aq.length + s.aq.countP (fun a => decide (a.phase = .main ∧ a.revert ≠ none))
    let needed : Nat := if revert = 0 then 1 else 2
    let a : Action := ⟨tag, .main, if trigger = 0 then .atTime (s.blc.time + delay) else .atMark, channels.setWidth 12,
      states.setWidth 12 &&& channels.setWidth 12, if revert = 0 then none else some revert⟩
    let before (b : Action) : Prop := trigger = 0 ∧ (b.trigger = .atMark ∨ ∃ d, b.trigger = .atTime d ∧
      2147483648 ≤ (s.blc.time - d).toNat ∧ delay.toNat < (d - s.blc.time).toNat)
    let run := exec (.queueAction seq tag trigger delay channels states revert) s
    (¬ fits → run = .next (s.answered f .badValue [])) ∧
    (fits → s.ct.nstop = .low → run = .next (s.answered f .stopped [])) ∧
    (fits → s.ct.nstop = .high → 16 < places + needed → run = .next (s.answered f .queueFull [])) ∧
    (fits → s.ct.nstop = .high → places + needed ≤ 16 → (∃ b ∈ s.aq, b.tag = tag) →
      run = .next (s.answered f .duplicateTag [])) ∧
    (fits → s.ct.nstop = .high → places + needed ≤ 16 → (∀ b ∈ s.aq, b.tag ≠ tag) →
      ∃ front back, s.aq = front ++ back ∧ (∀ b ∈ front, ¬ before b) ∧ (∀ b, back.head? = some b → before b) ∧
        run = .next (({ s with aq := front ++ a :: back } : State).answered f .ok
          ([trigger] ++ bytes4 (if trigger = 0 then s.blc.time + delay else 0)
            ++ [byteOf (s.aq.length + 1), byteOf (places + needed - s.aq.length - 1)])))

/-- CANCEL_ACTION (R103, R183): a tag of 0 is refused with BAD_VALUE; the entry that carries the tag, in either phase, leaves the queue with its
reservation, and the response carries its phase and the places freed; when none carries it the status is NOT_FOUND with no other
byte. NSTOP is not tested, and no event is raised. -/
def Obligations.CancelAction : Prop :=
  ∀ (s : State) (seq tag : Byte), s.Takes ⟨seq, 0x12, [tag]⟩ →
    (tag = 0 → exec (.cancelAction seq tag) s = .next (s.answered ⟨seq, 0x12, [tag]⟩ .badValue [])) ∧
    (tag ≠ 0 → (∀ b ∈ s.aq, b.tag ≠ tag) →
      exec (.cancelAction seq tag) s = .next (s.answered ⟨seq, 0x12, [tag]⟩ .notFound [])) ∧
    (∀ (front back : List Action) (a : Action), tag ≠ 0 → s.aq = front ++ a :: back → a.tag = tag →
      (∀ b ∈ front ++ back, b.tag ≠ tag) →
      exec (.cancelAction seq tag) s =
        .next (({ s with aq := front ++ back } : State).answered ⟨seq, 0x12, [tag]⟩ .ok
          [match a.phase with
           | .main => 0
           | .revert => 1,
           if a.phase = .main ∧ a.revert ≠ none then 2 else 1]))

/-- LIST_ACTIONS (R105, R184, TABLE 73) and READ_CHANNEL (R187, TABLE 72): each is answered OK with the bytes the tables lay out and changes
nothing else. LIST_ACTIONS carries up to five descriptors from the start index on, each with the channel code of base 3. A start
index above 15 and a channel above 11 are refused with BAD_VALUE. -/
def Obligations.ListActionsAndReadChannel : Prop :=
  (∀ a : Action, a.Formed → ∃ v : BitVec 40,
    v.toNat =
      (match a.phase, a.trigger with
        | .revert, _ => 2
        | .main, .atMark => 1
        | .main, .atTime _ => 0) * 2 ^ 38
      + (match a.revert with
        | some d => d.toNat
        | none => 0) * 2 ^ 20
      + (allChans.map fun c => (if a.channels.getLsbD c.val = false then 0 else if a.states.getLsbD c.val = true then 2 else 1)
          * 3 ^ c.val).sum ∧
    a.descriptor = [a.tag] ++ bytes4 (match a.trigger with
      | .atTime d => d
      | .atMark => 0) ++ bytes5 v) ∧
  ∀ (s : State) (seq : Byte),
    (∀ start : Byte, s.Takes ⟨seq, 0x13, [start]⟩ →
      (16 ≤ start.toNat → exec (.listActions seq start) s = .next (s.answered ⟨seq, 0x13, [start]⟩ .badValue [])) ∧
      (start.toNat < 16 →
        exec (.listActions seq start) s =
          .next (s.answered ⟨seq, 0x13, [start]⟩ .ok
            (bytes4 s.blc.time
              ++ [byteOf s.aq.length, byteOf (s.aq.countP fun a => decide (a.phase = .main ∧ a.revert ≠ none)), start]
              ++ ((s.aq.drop start.toNat).take 5).flatMap Action.descriptor)))) ∧
    (∀ n : Byte, s.Takes ⟨seq, 0x21, [n]⟩ →
      (12 ≤ n.toNat → exec (.readChannel seq n) s = .next (s.answered ⟨seq, 0x21, [n]⟩ .badValue [])) ∧
      (∀ (c : Chan) (e : ChannelEntry), n.toNat = c.val → e = s.ct.entries.get c →
        exec (.readChannel seq n) s =
          .next (s.answered ⟨seq, 0x21, [n]⟩ .ok
            ([n] ++ e.record.bytes
              ++ [byteOf (e.generation.toNat + if e.pending = true then 128 else 0),
                  match e.mirror.applied with
                  | some g => byteOf g.toNat
                  | none => 0xFF,
                  e.mirror.protection.code, byteOf e.mirror.retry, kindsByte e.mirror.conditions, kindsByte e.latched,
                  byteOf e.mirror.counters.overcurrent.toNat, byteOf e.mirror.counters.overtemp.toNat,
                  byteOf e.mirror.counters.openOn.toNat, byteOf e.mirror.counters.openOff.toNat,
                  byteOf e.mirror.counters.shortSupply.toNat,
                  byteOf ((if s.ct.demand.getLsbD c.val = true then 1 else 0) + 4 * e.token.toNat + 16 * e.mirror.token.toNat)]
              ++ bytes2 (BitVec.ofNat 16 (match e.countdown with
                | some k => k
                | none => 0))))))

/-- CONFIGURE_CHANNEL (R32, R33, R185, R186, TABLE 70): a record with a field out of range, an empty mask and a mask bit 12 to 15 are refused with
BAD_VALUE; otherwise every channel of the mask takes the record, an advanced generation and its pending flag, and the command waits
while the link is UP or DEGRADED, and ends at once with PENDING and a pending set that is the mask otherwise. A record read from
its bytes has those bytes, and is a record of TABLE 17. -/
def Obligations.ConfigureChannel : Prop :=
  (∀ b : RecordBytes,
    (ConfigRecord.ofBytes b = none ↔
      2 < b.limitClass.toNat ∨ 25 < b.inrush.toNat ∨ b.retryDelay.toNat = 0 ∨ 50 < b.retryDelay.toNat ∨
      15 < b.retryBudget.toNat ∨ 2 < b.openThreshold.toNat ∨ 3 < b.openQualification.toNat ∨ 15 < b.enables.toNat ∨
      b.holdTime.toNat = 0 ∨ 100 < b.holdTime.toNat) ∧
    ∀ r, ConfigRecord.ofBytes b = some r → r.Valid ∧
      r.bytes = [b.limitClass, b.inrush, b.retryDelay, b.retryBudget, b.openThreshold, b.openQualification, b.enables,
        b.holdTime]) ∧
  ∀ (s : State) (seq : Byte) (channels : Half) (b : RecordBytes) (f : Frame),
    f = configureChannelFrame seq channels b → s.Takes f →
    (channels = 0 ∨ 4096 ≤ channels.toNat ∨ ConfigRecord.ofBytes b = none →
      exec (.configureChannel seq channels b) s = .next (s.answered f .badValue [])) ∧
    (∀ (r : ConfigRecord) (u : State), channels ≠ 0 → channels.toNat < 4096 → ConfigRecord.ofBytes b = some r →
      u = { s with
        ct := { s.ct with
          entries := Table.ofFn fun c =>
            if channels.getLsbD c.val = true then
              { (s.ct.entries.get c).advance with record := r, pending := true }
            else s.ct.entries.get c } } →
      (s.blc.link = .up ∨ s.blc.link = .degraded →
        exec (.configureChannel seq channels b) s = .next (u.waitsFor f (.confirmation (channels.setWidth 12)))) ∧
      (s.blc.link = .syncing ∨ s.blc.link = .lost →
        exec (.configureChannel seq channels b) s = .next (u.answered f .pending (bytes2 channels))))

/-- CLEAR_FAULTS (R113, R115, R116, R123, R188): of the kinds and channels named, each latch whose condition is mirrored absent is cleared and each
whose condition is present is listed; FAULT_CLEARED is raised channel by channel in ascending order and in fault-kind order; with the
release flag the channels of the mask mirrored LOCKED form the release set, and the tokens of those with no release outstanding
advance. It ends with OK when the set is empty, waits while the link is UP or DEGRADED, and ends with PENDING otherwise, the
outstanding set then being the release set. Bytes out of range are refused with BAD_VALUE. The response and a REPORT frame that come at
one moment with TXD idle may go in either order (log entry 24). -/
def Obligations.ClearFaults : Prop :=
  ∀ (s : State) (seq : Byte) (channels : Half) (kinds release : Byte) (f : Frame),
    f = clearFaultsFrame seq channels kinds release → s.Takes f →
    (channels = 0 ∨ 4096 ≤ channels.toNat ∨ 32 ≤ kinds.toNat ∨ 2 ≤ release.toNat →
      exec (.clearFaults seq channels kinds release) s = .next (s.answered f .badValue [])) ∧
    (∀ (cleared present : PerChan (PerKind Bool)) (set : ChanSet) (u : State),
      channels ≠ 0 → channels.toNat < 4096 → kinds.toNat < 32 → release.toNat < 2 →
      cleared = (Table.ofFn fun c => PerKind.ofFn fun k =>
        decide (channels.getLsbD c.val = true ∧ kinds.getLsbD (faultCode k).toNat = true ∧
          (s.ct.entries.get c).latched.get k = true ∧ (s.ct.entries.get c).mirror.conditions.get k = false)) →
      present = (Table.ofFn fun c => PerKind.ofFn fun k =>
        decide (channels.getLsbD c.val = true ∧ kinds.getLsbD (faultCode k).toNat = true ∧
          (s.ct.entries.get c).latched.get k = true ∧ (s.ct.entries.get c).mirror.conditions.get k = true)) →
      (∀ c : Chan, set.getLsbD c.val =
        decide (release = 1 ∧ channels.getLsbD c.val = true ∧ (s.ct.entries.get c).mirror.protection = .locked)) →
      u = { s with
        ct := { s.ct with
          entries := Table.ofFn fun c =>
            let e := s.ct.entries.get c
            { e with
              latched := PerKind.ofFn fun k => e.latched.get k && !(cleared.get c).get k
              token := if set.getLsbD c.val = true ∧ e.token = e.mirror.token then e.token + 1 else e.token } }
        ru := s.ru.takeAll s.blc.time (allChans.flatMap fun c =>
          ([FaultKind.overcurrent, .overtemp, .openOn, .openOff, .shortSupply].filter fun k => (cleared.get c).get k).map
            (Event.faultCleared c)) } →
      ∀ contents : List Byte,
        contents = (allChans.map fun c => kindsByte (cleared.get c)) ++ (allChans.map fun c => kindsByte (present.get c))
          ++ bytes2 (set.setWidth 16) ++ bytes2 (set.setWidth 16) →
        (set = 0 →
          exec (.clearFaults seq channels kinds release) s = .next ((u.answered f .ok contents).tiedFrom s)) ∧
        (set ≠ 0 → s.blc.link = .up ∨ s.blc.link = .degraded →
          exec (.clearFaults seq channels kinds release) s = .next (u.waitsFor f (.release cleared present set))) ∧
        (set ≠ 0 → s.blc.link = .syncing ∨ s.blc.link = .lost →
          exec (.clearFaults seq channels kinds release) s = .next ((u.answered f .pending contents).tiedFrom s)))

/-- READ_FILTER (R190) and SET_FILTER (R131, R189). An index above 7, a flag other than 0 or 1, an action code above 2, a mandatory kind and a
channel-set bit 12 to 14 are refused with BAD_VALUE. SET_FILTER replaces the entry, with a match count of 0. READ_FILTER is answered
with the index, the enabled flag, the kind set, the channel set, the action code and the match count before any clearing, in the
encoding of SET_FILTER, and with the clear flag the match count then becomes 0; what SET_FILTER has written reads back byte for
byte. -/
def Obligations.FilterTable : Prop :=
  ∀ (s : State) (seq i : Byte),
    (∀ (en : Byte) (kinds channels : Half) (action : Byte) (f : Frame),
      f = ⟨seq, 0x30, [i, en] ++ bytes2 kinds ++ bytes2 channels ++ [action]⟩ → s.Takes f →
      (8 ≤ i.toNat ∨ 2 ≤ en.toNat ∨ 3 ≤ action.toNat ∨ kinds &&& 0b1011100100000001#16 ≠ 0 ∨
          channels &&& 0b0111000000000000#16 ≠ 0 →
        exec (.setFilter seq i en kinds channels action) s = .next (s.answered f .badValue [])) ∧
      (∀ (j : Fin 8) (a : FilterAction), i.toNat = j.val → en.toNat < 2 → action = a.code →
        kinds &&& 0b1011100100000001#16 = 0 → channels &&& 0b0111000000000000#16 = 0 →
        ∀ x : FilterEntry, x = ⟨decide (en = 1), kinds, channels.setWidth 12, channels.getLsbD 15, a, 0⟩ →
        exec (.setFilter seq i en kinds channels action) s =
          .next (({ s with ru := { s.ru with filter := s.ru.filter.set j x } } : State).answered f .ok []) ∧
        readFilterContents j x = [i, en] ++ bytes2 kinds ++ bytes2 channels ++ [action] ++ [0, 0])) ∧
    (∀ clear : Byte, s.Takes ⟨seq, 0x31, [i, clear]⟩ →
      (8 ≤ i.toNat ∨ 2 ≤ clear.toNat →
        exec (.readFilter seq i clear) s = .next (s.answered ⟨seq, 0x31, [i, clear]⟩ .badValue [])) ∧
      (∀ (j : Fin 8) (x : FilterEntry), i.toNat = j.val → clear.toNat < 2 → x = s.ru.filter.get j →
        exec (.readFilter seq i clear) s =
          .next (({ s with
            ru := { s.ru with filter := s.ru.filter.set j (if clear = 1 then { x with count := 0 } else x) } } : State).answered
            ⟨seq, 0x31, [i, clear]⟩ .ok
            ([i, if x.enabled = true then 1 else 0] ++ bytes2 x.kinds
              ++ bytes2 (x.channels.setWidth 16 ||| if x.noChannel = true then 0x8000 else 0)
              ++ ([match x.action with
                  | .report => 0
                  | .count => 1
                  | .drop => 2] : List Byte)
              ++ bytes2 (BitVec.ofNat 16 x.count)))))

/-- READ_SNAPSHOT (R155, R191, TABLE 74) and SOFT_RESET (R173, R192). With a snapshot standing, READ_SNAPSHOT is answered OK with its 35 bytes;
with none, UNAVAILABLE with no other byte; the slot is not touched. SOFT_RESET places its response OK, which is marked as the one
that ends in the control reset, leaves the reply cache as it is and enters RESETTING. -/
def Obligations.ReadSnapshotAndSoftReset : Prop :=
  ∀ (s : State) (seq : Byte),
    (s.Takes ⟨seq, 0x40, []⟩ →
      (s.mc.last = none → exec (.readSnapshot seq) s = .next (s.answered ⟨seq, 0x40, []⟩ .unavailable [])) ∧
      (∀ p, s.mc.last = some p → p.bytes.length = 35 ∧
        exec (.readSnapshot seq) s =
          .next (s.answered ⟨seq, 0x40, []⟩ .ok
            (bytes2 p.number ++ bytes4 p.time ++ [byteOf p.overwrites, p.link.code, p.band.code]
              ++ bytes2 (p.demand.setWidth 16) ++ (allChans.map fun c => (p.protections.get c).code)
              ++ (allChans.map fun c => kindsByte (p.latched.get c)))))) ∧
    (s.Takes ⟨seq, 0x7F, []⟩ →
      exec (.softReset seq) s =
        .next { s with
          hlk := { s.hlk with
            inbound := s.hlk.inbound.tail, responses := s.hlk.responses ++ [⟨⟨seq, 0xFF, [0x00]⟩, true⟩] }
          ce := { s.ce with engine := .resetting } })

/-- The end of a wait (R33, R116, R166, R186, R188): a good status frame after which nothing is awaited any more ends the command with OK, and a
wait timer that has counted 400 advances ends it with TIMEOUT; the response, formed from the state as it stands, joins the
response queue and the reply cache, and the Command Engine is IDLE. Before either the command goes on waiting, and a WAIT_TIMER_EXPIRY
with no command waiting, in IDLE or in RESETTING, changes nothing (log entry 2). The response and a REPORT frame that come with a
status frame at one moment with TXD idle may go in either order (log entry 24). -/
def Obligations.WaitEnds : Prop :=
  (∀ s : State, s.runs = true → s.ce.engine = .idle ∨ s.ce.engine = .resetting → exec .waitTimerExpiry s = .next s) ∧
  ∀ (s : State) (w : WaitingCommand), s.runs = true → s.ce.engine = .waiting w →
    let awaits (t : State) (c : Chan) : Bool :=
      match w.awaited with
      | .confirmation m => m.getLsbD c.val && (t.ct.entries.get c).pending
      | .release _ _ m => m.getLsbD c.val && decide ((t.ct.entries.get c).token ≠ (t.ct.entries.get c).mirror.token)
    let reply (status : Status) (left : ChanSet) : Frame :=
      ⟨w.frame.seq, responseKind w.frame.kind, status.code :: (match w.awaited with
        | .confirmation _ => bytes2 (left.setWidth 16)
        | .release cleared present m => (allChans.map fun c => kindsByte (cleared.get c))
            ++ (allChans.map fun c => kindsByte (present.get c)) ++ bytes2 (m.setWidth 16) ++ bytes2 (left.setWidth 16))⟩
    (w.elapsed < 400 → exec .waitTimerExpiry s = .next s) ∧
    (400 ≤ w.elapsed → ∃ left : ChanSet, (∀ c : Chan, left.getLsbD c.val = awaits s c) ∧
      exec .waitTimerExpiry s =
        .next { s with
          hlk := { s.hlk with responses := s.hlk.responses ++ [⟨reply .timeout left, false⟩] }
          ce := ⟨.idle, some ⟨w.frame.seq, w.frame.crc, reply .timeout left⟩⟩ }) ∧
    (∀ (k : Nat) (f : StatusFrame), (s.barrier.late ++ s.barrier.status)[k]? = some f →
      f.cycle = s.blc.time.setWidth 8 → s.blc.goodTaken = false →
      ∃ t, exec (.goodStatusFrameTaken k) s = .next t ∧
        ((∀ c : Chan, awaits t c = false) →
          t.hlk = { s.hlk with
            responses := s.hlk.responses ++ [⟨reply .ok 0, false⟩]
            tie := s.hlk.tie || tieBetween s t } ∧
          t.ce = ⟨.idle, some ⟨w.frame.seq, w.frame.crc, reply .ok 0⟩⟩) ∧
        ((∃ c : Chan, awaits t c = true) → t.hlk = s.hlk ∧ t.ce = s.ce))

/-! ## What every step keeps -/

/-- Every step keeps the field side sound: the effective demand of TABLE 26, the switch closed only on demand, retry counts within the
budget, records of TABLE 17, and the timers of each protection state (R11, R12, R13, R28, R48, R50 to R52, TABLE 12). That the condition
of a disabled off-state detector is absent in DROPOUT too is the model's choice (log entry 28). -/
def Obligations.StepKeepsFieldSide : Prop :=
  ∀ s t : State, s.FieldSound → step s = .next t → t.FieldSound

/-- Every step keeps the Report Unit sound: at most 32 records, consecutively numbered, the three runs in order, at most 8 in SENT, and a
pending loss only with a full queue (R134, R135). -/
def Obligations.StepKeepsReportUnit : Prop :=
  ∀ s t : State, s.ru.Sound → step s = .next t → t.ru.Sound

/-- Every step keeps the Action Queue and the demand sound: entries and reservations number at most 16, no tag stands twice, and while NSTOP
is recognised LOW every demand is OFF and the queue is empty, as it is during host silence (R55, R59, R90 to R92). -/
def Obligations.StepKeepsQueueAndDemand : Prop :=
  ∀ s t : State, QueueSound s.aq → s.DemandSound → step s = .next t → QueueSound t.aq ∧ t.DemandSound

/-- Every step keeps the Channel Table and the Barrier Link Controller sound: baselines equal the counter mirrors, a held channel is
pending, a channel that is not pending shows its generation once a field restart has been detected, and the link is LOST exactly
from the fourth consecutive miss on (R29, R71, R74, R110, R187, TABLE 32). -/
def Obligations.StepKeepsChannelTableAndLink : Prop :=
  ∀ s t : State, s.ct.Sound → s.blc.Sound → step s = .next t → t.ct.Sound ∧ t.blc.Sound

/-- Every step keeps the Host Link, the Command Engine and Mark Capture sound: at most 4 frames in either queue, no ACK in the inbound
queue, a free place for the response of the command in execution, RESETTING exactly while a SOFT_RESET response waits or is sent,
and a snapshot slot that is filled only with automatic reporting on (R152, R153, R162, R163, R168, R173). -/
def Obligations.StepKeepsHostLinkAndMark : Prop :=
  ∀ s t : State, s.LinkSound → s.mc.Sound s.runs → step s = .next t → t.LinkSound ∧ t.mc.Sound t.runs
end

