-- ==== Sys2Proof/Laws/State.lean ====
section
/-! SUPPORT. Which fields of the state each shared operation leaves as they were, and what it makes of those it writes, one lemma a
field, so that no proof unfolds a record update. -/

namespace Sys2Proof.Machine

open Sys2Proof


/-! ## State.raise -/

@[simp] theorem State.raise_hlk (s : State) (es : List Event) : (s.raise es).hlk = s.hlk := rfl
@[simp] theorem State.raise_ce (s : State) (es : List Event) : (s.raise es).ce = s.ce := rfl
@[simp] theorem State.raise_ct (s : State) (es : List Event) : (s.raise es).ct = s.ct := rfl
@[simp] theorem State.raise_aq (s : State) (es : List Event) : (s.raise es).aq = s.aq := rfl
@[simp] theorem State.raise_ru (s : State) (es : List Event) : (s.raise es).ru = s.ru.takeAll s.blc.time es := rfl
@[simp] theorem State.raise_mc (s : State) (es : List Event) : (s.raise es).mc = s.mc := rfl
@[simp] theorem State.raise_blc (s : State) (es : List Event) : (s.raise es).blc = s.blc := rfl
@[simp] theorem State.raise_barrier (s : State) (es : List Event) : (s.raise es).barrier = s.barrier := rfl
@[simp] theorem State.raise_field (s : State) (es : List Event) : (s.raise es).field = s.field := rfl
@[simp] theorem State.raise_held (s : State) (es : List Event) : (s.raise es).held = s.held := rfl
@[simp] theorem State.raise_lastCause (s : State) (es : List Event) : (s.raise es).lastCause = s.lastCause := rfl
@[simp] theorem State.raise_pending (s : State) (es : List Event) : (s.raise es).pending = s.pending := rfl

/-! ## State.applyAction -/

@[simp] theorem State.applyAction_hlk (s : State) (a : Action) : (s.applyAction a).hlk = s.hlk := rfl
@[simp] theorem State.applyAction_ce (s : State) (a : Action) : (s.applyAction a).ce = s.ce := rfl
@[simp] theorem State.applyAction_ct (s : State) (a : Action) : (s.applyAction a).ct = { s.ct with demand := writeDemand s.ct.demand a.channels a.states } := rfl
@[simp] theorem State.applyAction_aq (s : State) (a : Action) : (s.applyAction a).aq = applyToQueue s.aq a s.blc.time s.ct.demand := rfl
@[simp] theorem State.applyAction_ru (s : State) (a : Action) : (s.applyAction a).ru = s.ru.takeAll s.blc.time [.actionApplied a.tag a.phase a.channels] := rfl
@[simp] theorem State.applyAction_mc (s : State) (a : Action) : (s.applyAction a).mc = s.mc := rfl
@[simp] theorem State.applyAction_blc (s : State) (a : Action) : (s.applyAction a).blc = s.blc := rfl
@[simp] theorem State.applyAction_barrier (s : State) (a : Action) : (s.applyAction a).barrier = s.barrier := rfl
@[simp] theorem State.applyAction_field (s : State) (a : Action) : (s.applyAction a).field = s.field := rfl
@[simp] theorem State.applyAction_held (s : State) (a : Action) : (s.applyAction a).held = s.held := rfl
@[simp] theorem State.applyAction_lastCause (s : State) (a : Action) : (s.applyAction a).lastCause = s.lastCause := rfl
@[simp] theorem State.applyAction_pending (s : State) (a : Action) : (s.applyAction a).pending = s.pending := rfl

/-! ## State.flush -/

@[simp] theorem State.flush_hlk (s : State) (r : FlushReason) (es : List Event) : (s.flush r es).hlk = s.hlk := rfl
@[simp] theorem State.flush_ce (s : State) (r : FlushReason) (es : List Event) : (s.flush r es).ce = s.ce := rfl
@[simp] theorem State.flush_ct (s : State) (r : FlushReason) (es : List Event) : (s.flush r es).ct = s.ct := rfl
@[simp] theorem State.flush_aq (s : State) (r : FlushReason) (es : List Event) : (s.flush r es).aq = [] := rfl
@[simp] theorem State.flush_ru (s : State) (r : FlushReason) (es : List Event) : (s.flush r es).ru = s.ru.takeAll s.blc.time (flushEvents r s.aq.length ++ es) := rfl
@[simp] theorem State.flush_mc (s : State) (r : FlushReason) (es : List Event) : (s.flush r es).mc = s.mc := rfl
@[simp] theorem State.flush_blc (s : State) (r : FlushReason) (es : List Event) : (s.flush r es).blc = s.blc := rfl
@[simp] theorem State.flush_barrier (s : State) (r : FlushReason) (es : List Event) : (s.flush r es).barrier = s.barrier := rfl
@[simp] theorem State.flush_field (s : State) (r : FlushReason) (es : List Event) : (s.flush r es).field = s.field := rfl
@[simp] theorem State.flush_held (s : State) (r : FlushReason) (es : List Event) : (s.flush r es).held = s.held := rfl
@[simp] theorem State.flush_lastCause (s : State) (r : FlushReason) (es : List Event) : (s.flush r es).lastCause = s.lastCause := rfl
@[simp] theorem State.flush_pending (s : State) (r : FlushReason) (es : List Event) : (s.flush r es).pending = s.pending := rfl

/-! ## State.assertStop -/

@[simp] theorem State.assertStop_hlk (s : State) : (s.assertStop).hlk = s.hlk := rfl
@[simp] theorem State.assertStop_ce (s : State) : (s.assertStop).ce = s.ce := rfl
@[simp] theorem State.assertStop_ct (s : State) : (s.assertStop).ct = s.ct.assertStop := rfl
@[simp] theorem State.assertStop_aq (s : State) : (s.assertStop).aq = [] := rfl
@[simp] theorem State.assertStop_ru (s : State) : (s.assertStop).ru = s.ru.takeAll s.blc.time (flushEvents .stop s.aq.length ++ [.stop .asserted]) := rfl
@[simp] theorem State.assertStop_mc (s : State) : (s.assertStop).mc = s.mc := rfl
@[simp] theorem State.assertStop_blc (s : State) : (s.assertStop).blc = s.blc := rfl
@[simp] theorem State.assertStop_barrier (s : State) : (s.assertStop).barrier = s.barrier := rfl
@[simp] theorem State.assertStop_field (s : State) : (s.assertStop).field = s.field := rfl
@[simp] theorem State.assertStop_held (s : State) : (s.assertStop).held = s.held := rfl
@[simp] theorem State.assertStop_lastCause (s : State) : (s.assertStop).lastCause = s.lastCause := rfl
@[simp] theorem State.assertStop_pending (s : State) : (s.assertStop).pending = s.pending := rfl

/-! ## State.releaseStop -/

@[simp] theorem State.releaseStop_hlk (s : State) : (s.releaseStop).hlk = s.hlk := rfl
@[simp] theorem State.releaseStop_ce (s : State) : (s.releaseStop).ce = s.ce := rfl
@[simp] theorem State.releaseStop_ct (s : State) : (s.releaseStop).ct = s.ct.releaseStop := rfl
@[simp] theorem State.releaseStop_aq (s : State) : (s.releaseStop).aq = s.aq := rfl
@[simp] theorem State.releaseStop_ru (s : State) : (s.releaseStop).ru = s.ru.takeAll s.blc.time [.stop .released] := rfl
@[simp] theorem State.releaseStop_mc (s : State) : (s.releaseStop).mc = s.mc := rfl
@[simp] theorem State.releaseStop_blc (s : State) : (s.releaseStop).blc = s.blc := rfl
@[simp] theorem State.releaseStop_barrier (s : State) : (s.releaseStop).barrier = s.barrier := rfl
@[simp] theorem State.releaseStop_field (s : State) : (s.releaseStop).field = s.field := rfl
@[simp] theorem State.releaseStop_held (s : State) : (s.releaseStop).held = s.held := rfl
@[simp] theorem State.releaseStop_lastCause (s : State) : (s.releaseStop).lastCause = s.lastCause := rfl
@[simp] theorem State.releaseStop_pending (s : State) : (s.releaseStop).pending = s.pending := rfl

/-! ## State.beginSilence -/

@[simp] theorem State.beginSilence_hlk (s : State) : (s.beginSilence).hlk = s.hlk := rfl
@[simp] theorem State.beginSilence_ce (s : State) : (s.beginSilence).ce = s.ce := rfl
@[simp] theorem State.beginSilence_ct (s : State) : (s.beginSilence).ct = s.ct.beginSilence := rfl
@[simp] theorem State.beginSilence_aq (s : State) : (s.beginSilence).aq = [] := rfl
@[simp] theorem State.beginSilence_ru (s : State) : (s.beginSilence).ru = s.ru.takeAll s.blc.time (flushEvents .hostSilent s.aq.length ++ [.hostSilent .begins]) := rfl
@[simp] theorem State.beginSilence_mc (s : State) : (s.beginSilence).mc = s.mc := rfl
@[simp] theorem State.beginSilence_blc (s : State) : (s.beginSilence).blc = s.blc := rfl
@[simp] theorem State.beginSilence_barrier (s : State) : (s.beginSilence).barrier = s.barrier := rfl
@[simp] theorem State.beginSilence_field (s : State) : (s.beginSilence).field = s.field := rfl
@[simp] theorem State.beginSilence_held (s : State) : (s.beginSilence).held = s.held := rfl
@[simp] theorem State.beginSilence_lastCause (s : State) : (s.beginSilence).lastCause = s.lastCause := rfl
@[simp] theorem State.beginSilence_pending (s : State) : (s.beginSilence).pending = s.pending := rfl

/-! ## State.endSilence -/

@[simp] theorem State.endSilence_hlk (s : State) : (s.endSilence).hlk = { s.hlk with silence := 0 } := rfl
@[simp] theorem State.endSilence_ce (s : State) : (s.endSilence).ce = s.ce := rfl
@[simp] theorem State.endSilence_ct (s : State) : (s.endSilence).ct = s.ct.endSilence := rfl
@[simp] theorem State.endSilence_aq (s : State) : (s.endSilence).aq = s.aq := rfl
@[simp] theorem State.endSilence_ru (s : State) : (s.endSilence).ru = s.ru.takeAll s.blc.time [.hostSilent .ends] := rfl
@[simp] theorem State.endSilence_mc (s : State) : (s.endSilence).mc = s.mc := rfl
@[simp] theorem State.endSilence_blc (s : State) : (s.endSilence).blc = s.blc := rfl
@[simp] theorem State.endSilence_barrier (s : State) : (s.endSilence).barrier = s.barrier := rfl
@[simp] theorem State.endSilence_field (s : State) : (s.endSilence).field = s.field := rfl
@[simp] theorem State.endSilence_held (s : State) : (s.endSilence).held = s.held := rfl
@[simp] theorem State.endSilence_lastCause (s : State) : (s.endSilence).lastCause = s.lastCause := rfl
@[simp] theorem State.endSilence_pending (s : State) : (s.endSilence).pending = s.pending := rfl

/-! ## State.place -/

@[simp] theorem State.place_hlk (s : State) (t : TxFrame) : (s.place t).hlk = { s.hlk with responses := s.hlk.responses ++ [t] } := rfl
@[simp] theorem State.place_ce (s : State) (t : TxFrame) : (s.place t).ce = s.ce := rfl
@[simp] theorem State.place_ct (s : State) (t : TxFrame) : (s.place t).ct = s.ct := rfl
@[simp] theorem State.place_aq (s : State) (t : TxFrame) : (s.place t).aq = s.aq := rfl
@[simp] theorem State.place_ru (s : State) (t : TxFrame) : (s.place t).ru = s.ru := rfl
@[simp] theorem State.place_mc (s : State) (t : TxFrame) : (s.place t).mc = s.mc := rfl
@[simp] theorem State.place_blc (s : State) (t : TxFrame) : (s.place t).blc = s.blc := rfl
@[simp] theorem State.place_barrier (s : State) (t : TxFrame) : (s.place t).barrier = s.barrier := rfl
@[simp] theorem State.place_field (s : State) (t : TxFrame) : (s.place t).field = s.field := rfl
@[simp] theorem State.place_held (s : State) (t : TxFrame) : (s.place t).held = s.held := rfl
@[simp] theorem State.place_lastCause (s : State) (t : TxFrame) : (s.place t).lastCause = s.lastCause := rfl
@[simp] theorem State.place_pending (s : State) (t : TxFrame) : (s.place t).pending = s.pending := rfl

/-! ## State.finish -/

@[simp] theorem State.finish_hlk (s : State) (f r : Frame) : (s.finish f r).hlk = { s.hlk with responses := s.hlk.responses ++ [⟨r, false⟩] } := rfl
@[simp] theorem State.finish_ce (s : State) (f r : Frame) : (s.finish f r).ce = ⟨.idle, some ⟨f.seq, f.crc, r⟩⟩ := rfl
@[simp] theorem State.finish_ct (s : State) (f r : Frame) : (s.finish f r).ct = s.ct := rfl
@[simp] theorem State.finish_aq (s : State) (f r : Frame) : (s.finish f r).aq = s.aq := rfl
@[simp] theorem State.finish_ru (s : State) (f r : Frame) : (s.finish f r).ru = s.ru := rfl
@[simp] theorem State.finish_mc (s : State) (f r : Frame) : (s.finish f r).mc = s.mc := rfl
@[simp] theorem State.finish_blc (s : State) (f r : Frame) : (s.finish f r).blc = s.blc := rfl
@[simp] theorem State.finish_barrier (s : State) (f r : Frame) : (s.finish f r).barrier = s.barrier := rfl
@[simp] theorem State.finish_field (s : State) (f r : Frame) : (s.finish f r).field = s.field := rfl
@[simp] theorem State.finish_held (s : State) (f r : Frame) : (s.finish f r).held = s.held := rfl
@[simp] theorem State.finish_lastCause (s : State) (f r : Frame) : (s.finish f r).lastCause = s.lastCause := rfl
@[simp] theorem State.finish_pending (s : State) (f r : Frame) : (s.finish f r).pending = s.pending := rfl

/-! ## State.dropHead -/

@[simp] theorem State.dropHead_hlk (s : State) : (s.dropHead).hlk = { s.hlk with inbound := s.hlk.inbound.tail } := rfl
@[simp] theorem State.dropHead_ce (s : State) : (s.dropHead).ce = s.ce := rfl
@[simp] theorem State.dropHead_ct (s : State) : (s.dropHead).ct = s.ct := rfl
@[simp] theorem State.dropHead_aq (s : State) : (s.dropHead).aq = s.aq := rfl
@[simp] theorem State.dropHead_ru (s : State) : (s.dropHead).ru = s.ru := rfl
@[simp] theorem State.dropHead_mc (s : State) : (s.dropHead).mc = s.mc := rfl
@[simp] theorem State.dropHead_blc (s : State) : (s.dropHead).blc = s.blc := rfl
@[simp] theorem State.dropHead_barrier (s : State) : (s.dropHead).barrier = s.barrier := rfl
@[simp] theorem State.dropHead_field (s : State) : (s.dropHead).field = s.field := rfl
@[simp] theorem State.dropHead_held (s : State) : (s.dropHead).held = s.held := rfl
@[simp] theorem State.dropHead_lastCause (s : State) : (s.dropHead).lastCause = s.lastCause := rfl
@[simp] theorem State.dropHead_pending (s : State) : (s.dropHead).pending = s.pending := rfl

/-! ## State.setReceiver -/

@[simp] theorem State.setReceiver_hlk (s : State) (r : Receiver) : (s.setReceiver r).hlk = { s.hlk with rx := r } := rfl
@[simp] theorem State.setReceiver_ce (s : State) (r : Receiver) : (s.setReceiver r).ce = s.ce := rfl
@[simp] theorem State.setReceiver_ct (s : State) (r : Receiver) : (s.setReceiver r).ct = s.ct := rfl
@[simp] theorem State.setReceiver_aq (s : State) (r : Receiver) : (s.setReceiver r).aq = s.aq := rfl
@[simp] theorem State.setReceiver_ru (s : State) (r : Receiver) : (s.setReceiver r).ru = s.ru := rfl
@[simp] theorem State.setReceiver_mc (s : State) (r : Receiver) : (s.setReceiver r).mc = s.mc := rfl
@[simp] theorem State.setReceiver_blc (s : State) (r : Receiver) : (s.setReceiver r).blc = s.blc := rfl
@[simp] theorem State.setReceiver_barrier (s : State) (r : Receiver) : (s.setReceiver r).barrier = s.barrier := rfl
@[simp] theorem State.setReceiver_field (s : State) (r : Receiver) : (s.setReceiver r).field = s.field := rfl
@[simp] theorem State.setReceiver_held (s : State) (r : Receiver) : (s.setReceiver r).held = s.held := rfl
@[simp] theorem State.setReceiver_lastCause (s : State) (r : Receiver) : (s.setReceiver r).lastCause = s.lastCause := rfl
@[simp] theorem State.setReceiver_pending (s : State) (r : Receiver) : (s.setReceiver r).pending = s.pending := rfl

/-! ## State.tiedFrom -/

@[simp] theorem State.tiedFrom_hlk (t s : State) : (t.tiedFrom s).hlk = { t.hlk with tie := t.hlk.tie || tieBetween s t } := rfl
@[simp] theorem State.tiedFrom_ce (t s : State) : (t.tiedFrom s).ce = t.ce := rfl
@[simp] theorem State.tiedFrom_ct (t s : State) : (t.tiedFrom s).ct = t.ct := rfl
@[simp] theorem State.tiedFrom_aq (t s : State) : (t.tiedFrom s).aq = t.aq := rfl
@[simp] theorem State.tiedFrom_ru (t s : State) : (t.tiedFrom s).ru = t.ru := rfl
@[simp] theorem State.tiedFrom_mc (t s : State) : (t.tiedFrom s).mc = t.mc := rfl
@[simp] theorem State.tiedFrom_blc (t s : State) : (t.tiedFrom s).blc = t.blc := rfl
@[simp] theorem State.tiedFrom_barrier (t s : State) : (t.tiedFrom s).barrier = t.barrier := rfl
@[simp] theorem State.tiedFrom_field (t s : State) : (t.tiedFrom s).field = t.field := rfl
@[simp] theorem State.tiedFrom_held (t s : State) : (t.tiedFrom s).held = t.held := rfl
@[simp] theorem State.tiedFrom_lastCause (t s : State) : (t.tiedFrom s).lastCause = t.lastCause := rfl
@[simp] theorem State.tiedFrom_pending (t s : State) : (t.tiedFrom s).pending = t.pending := rfl

/-! ## State.noteChar -/

@[simp] theorem State.noteChar_hlk (t : State) (ch : RxChar) : (t.noteChar ch).hlk = { t.hlk with broken := isBreak ch } := rfl
@[simp] theorem State.noteChar_ce (t : State) (ch : RxChar) : (t.noteChar ch).ce = t.ce := rfl
@[simp] theorem State.noteChar_ct (t : State) (ch : RxChar) : (t.noteChar ch).ct = t.ct := rfl
@[simp] theorem State.noteChar_aq (t : State) (ch : RxChar) : (t.noteChar ch).aq = t.aq := rfl
@[simp] theorem State.noteChar_ru (t : State) (ch : RxChar) : (t.noteChar ch).ru = t.ru := rfl
@[simp] theorem State.noteChar_mc (t : State) (ch : RxChar) : (t.noteChar ch).mc = t.mc := rfl
@[simp] theorem State.noteChar_blc (t : State) (ch : RxChar) : (t.noteChar ch).blc = t.blc := rfl
@[simp] theorem State.noteChar_barrier (t : State) (ch : RxChar) : (t.noteChar ch).barrier = t.barrier := rfl
@[simp] theorem State.noteChar_field (t : State) (ch : RxChar) : (t.noteChar ch).field = t.field := rfl
@[simp] theorem State.noteChar_held (t : State) (ch : RxChar) : (t.noteChar ch).held = t.held := rfl
@[simp] theorem State.noteChar_lastCause (t : State) (ch : RxChar) : (t.noteChar ch).lastCause = t.lastCause := rfl
@[simp] theorem State.noteChar_pending (t : State) (ch : RxChar) : (t.noteChar ch).pending = t.pending := rfl

/-! ## State.arm -/

@[simp] theorem State.arm_hlk (s : State) : (s.arm).hlk = { s.hlk with errorArmed := true } := rfl
@[simp] theorem State.arm_ce (s : State) : (s.arm).ce = s.ce := rfl
@[simp] theorem State.arm_ct (s : State) : (s.arm).ct = s.ct := rfl
@[simp] theorem State.arm_aq (s : State) : (s.arm).aq = s.aq := rfl
@[simp] theorem State.arm_ru (s : State) : (s.arm).ru = s.ru := rfl
@[simp] theorem State.arm_mc (s : State) : (s.arm).mc = s.mc := rfl
@[simp] theorem State.arm_blc (s : State) : (s.arm).blc = s.blc := rfl
@[simp] theorem State.arm_barrier (s : State) : (s.arm).barrier = s.barrier := rfl
@[simp] theorem State.arm_field (s : State) : (s.arm).field = s.field := rfl
@[simp] theorem State.arm_held (s : State) : (s.arm).held = s.held := rfl
@[simp] theorem State.arm_lastCause (s : State) : (s.arm).lastCause = s.lastCause := rfl
@[simp] theorem State.arm_pending (s : State) : (s.arm).pending = s.pending := rfl

/-! ## State.ackTaken -/

@[simp] theorem State.ackTaken_hlk (s : State) (n : Half) : (s.ackTaken n).hlk = s.hlk := rfl
@[simp] theorem State.ackTaken_ce (s : State) (n : Half) : (s.ackTaken n).ce = s.ce := rfl
@[simp] theorem State.ackTaken_ct (s : State) (n : Half) : (s.ackTaken n).ct = s.ct := rfl
@[simp] theorem State.ackTaken_aq (s : State) (n : Half) : (s.ackTaken n).aq = s.aq := rfl
@[simp] theorem State.ackTaken_ru (s : State) (n : Half) : (s.ackTaken n).ru = s.ru.ack s.blc.time n := rfl
@[simp] theorem State.ackTaken_mc (s : State) (n : Half) : (s.ackTaken n).mc = s.mc := rfl
@[simp] theorem State.ackTaken_blc (s : State) (n : Half) : (s.ackTaken n).blc = s.blc := rfl
@[simp] theorem State.ackTaken_barrier (s : State) (n : Half) : (s.ackTaken n).barrier = s.barrier := rfl
@[simp] theorem State.ackTaken_field (s : State) (n : Half) : (s.ackTaken n).field = s.field := rfl
@[simp] theorem State.ackTaken_held (s : State) (n : Half) : (s.ackTaken n).held = s.held := rfl
@[simp] theorem State.ackTaken_lastCause (s : State) (n : Half) : (s.ackTaken n).lastCause = s.lastCause := rfl
@[simp] theorem State.ackTaken_pending (s : State) (n : Half) : (s.ackTaken n).pending = s.pending := rfl

/-! ## State.acceptFrame -/

@[simp] theorem State.acceptFrame_ce (s : State) (f : Frame) : (s.acceptFrame f).ce = s.ce := rfl
@[simp] theorem State.acceptFrame_ct (s : State) (f : Frame) : (s.acceptFrame f).ct = s.ct := rfl
@[simp] theorem State.acceptFrame_aq (s : State) (f : Frame) : (s.acceptFrame f).aq = s.aq := rfl
@[simp] theorem State.acceptFrame_ru (s : State) (f : Frame) : (s.acceptFrame f).ru = s.ru := rfl
@[simp] theorem State.acceptFrame_mc (s : State) (f : Frame) : (s.acceptFrame f).mc = s.mc := rfl
@[simp] theorem State.acceptFrame_blc (s : State) (f : Frame) : (s.acceptFrame f).blc = s.blc := rfl
@[simp] theorem State.acceptFrame_barrier (s : State) (f : Frame) : (s.acceptFrame f).barrier = s.barrier := rfl
@[simp] theorem State.acceptFrame_field (s : State) (f : Frame) : (s.acceptFrame f).field = s.field := rfl
@[simp] theorem State.acceptFrame_held (s : State) (f : Frame) : (s.acceptFrame f).held = s.held := rfl
@[simp] theorem State.acceptFrame_lastCause (s : State) (f : Frame) : (s.acceptFrame f).lastCause = s.lastCause := rfl
@[simp] theorem State.acceptFrame_pending (s : State) (f : Frame) : (s.acceptFrame f).pending = s.pending := rfl

/-! ## State.sendReport -/

@[simp] theorem State.sendReport_ce (s : State) : (s.sendReport).ce = s.ce := rfl
@[simp] theorem State.sendReport_ct (s : State) : (s.sendReport).ct = s.ct := rfl
@[simp] theorem State.sendReport_aq (s : State) : (s.sendReport).aq = s.aq := rfl
@[simp] theorem State.sendReport_ru (s : State) : (s.sendReport).ru = s.ru.formFrame := rfl
@[simp] theorem State.sendReport_mc (s : State) : (s.sendReport).mc = s.mc := rfl
@[simp] theorem State.sendReport_blc (s : State) : (s.sendReport).blc = s.blc := rfl
@[simp] theorem State.sendReport_barrier (s : State) : (s.sendReport).barrier = s.barrier := rfl
@[simp] theorem State.sendReport_field (s : State) : (s.sendReport).field = s.field := rfl
@[simp] theorem State.sendReport_held (s : State) : (s.sendReport).held = s.held := rfl
@[simp] theorem State.sendReport_lastCause (s : State) : (s.sendReport).lastCause = s.lastCause := rfl
@[simp] theorem State.sendReport_pending (s : State) : (s.sendReport).pending = s.pending := rfl

/-! ## State.sendStatus -/

@[simp] theorem State.sendStatus_hlk (s : State) (f : FieldSide) : (s.sendStatus f).hlk = s.hlk := rfl
@[simp] theorem State.sendStatus_ce (s : State) (f : FieldSide) : (s.sendStatus f).ce = s.ce := rfl
@[simp] theorem State.sendStatus_ct (s : State) (f : FieldSide) : (s.sendStatus f).ct = s.ct := rfl
@[simp] theorem State.sendStatus_aq (s : State) (f : FieldSide) : (s.sendStatus f).aq = s.aq := rfl
@[simp] theorem State.sendStatus_ru (s : State) (f : FieldSide) : (s.sendStatus f).ru = s.ru := rfl
@[simp] theorem State.sendStatus_mc (s : State) (f : FieldSide) : (s.sendStatus f).mc = s.mc := rfl
@[simp] theorem State.sendStatus_blc (s : State) (f : FieldSide) : (s.sendStatus f).blc = s.blc := rfl
@[simp] theorem State.sendStatus_barrier (s : State) (f : FieldSide) : (s.sendStatus f).barrier = { s.barrier with status := s.barrier.status ++ [f.statusFrame] } := rfl
@[simp] theorem State.sendStatus_field (s : State) (f : FieldSide) : (s.sendStatus f).field = s.field := rfl
@[simp] theorem State.sendStatus_held (s : State) (f : FieldSide) : (s.sendStatus f).held = s.held := rfl
@[simp] theorem State.sendStatus_lastCause (s : State) (f : FieldSide) : (s.sendStatus f).lastCause = s.lastCause := rfl
@[simp] theorem State.sendStatus_pending (s : State) (f : FieldSide) : (s.sendStatus f).pending = s.pending := rfl

/-! ## State.startReset -/

@[simp] theorem State.startReset_hlk (s : State) (p : ResetPin) : (s.startReset p).hlk = { s.hlk with txd := .idle } := rfl
@[simp] theorem State.startReset_ce (s : State) (p : ResetPin) : (s.startReset p).ce = s.ce := rfl
@[simp] theorem State.startReset_ct (s : State) (p : ResetPin) : (s.startReset p).ct = s.ct := rfl
@[simp] theorem State.startReset_aq (s : State) (p : ResetPin) : (s.startReset p).aq = s.aq := rfl
@[simp] theorem State.startReset_ru (s : State) (p : ResetPin) : (s.startReset p).ru = s.ru := rfl
@[simp] theorem State.startReset_mc (s : State) (p : ResetPin) : (s.startReset p).mc = s.mc := rfl
@[simp] theorem State.startReset_blc (s : State) (p : ResetPin) : (s.startReset p).blc = s.blc := rfl
@[simp] theorem State.startReset_barrier (s : State) (p : ResetPin) : (s.startReset p).barrier = s.barrier := rfl
@[simp] theorem State.startReset_field (s : State) (p : ResetPin) : (s.startReset p).field = s.field := rfl
@[simp] theorem State.startReset_held (s : State) (p : ResetPin) : (s.startReset p).held = some (heldCause s.held p) := rfl
@[simp] theorem State.startReset_lastCause (s : State) (p : ResetPin) : (s.startReset p).lastCause = s.lastCause := rfl
@[simp] theorem State.startReset_pending (s : State) (p : ResetPin) : (s.startReset p).pending = s.pending := rfl

/-! ## State.nstopMoves -/

@[simp] theorem State.nstopMoves_hlk (s : State) (l : Level) : (s.nstopMoves l).hlk = s.hlk := rfl
@[simp] theorem State.nstopMoves_ce (s : State) (l : Level) : (s.nstopMoves l).ce = s.ce := rfl
@[simp] theorem State.nstopMoves_aq (s : State) (l : Level) : (s.nstopMoves l).aq = s.aq := rfl
@[simp] theorem State.nstopMoves_ru (s : State) (l : Level) : (s.nstopMoves l).ru = s.ru := rfl
@[simp] theorem State.nstopMoves_mc (s : State) (l : Level) : (s.nstopMoves l).mc = s.mc := rfl
@[simp] theorem State.nstopMoves_blc (s : State) (l : Level) : (s.nstopMoves l).blc = s.blc := rfl
@[simp] theorem State.nstopMoves_barrier (s : State) (l : Level) : (s.nstopMoves l).barrier = s.barrier := rfl
@[simp] theorem State.nstopMoves_field (s : State) (l : Level) : (s.nstopMoves l).field = s.field := rfl
@[simp] theorem State.nstopMoves_held (s : State) (l : Level) : (s.nstopMoves l).held = s.held := rfl
@[simp] theorem State.nstopMoves_lastCause (s : State) (l : Level) : (s.nstopMoves l).lastCause = s.lastCause := rfl
@[simp] theorem State.nstopMoves_pending (s : State) (l : Level) : (s.nstopMoves l).pending = s.pending := rfl

/-! ## State.closeCycle -/

@[simp] theorem State.closeCycle_hlk (s : State) : (s.closeCycle).hlk = s.hlk := rfl
@[simp] theorem State.closeCycle_ce (s : State) : (s.closeCycle).ce = s.ce := rfl
@[simp] theorem State.closeCycle_ct (s : State) : (s.closeCycle).ct = s.ct := rfl
@[simp] theorem State.closeCycle_aq (s : State) : (s.closeCycle).aq = s.aq := rfl
@[simp] theorem State.closeCycle_ru (s : State) : (s.closeCycle).ru = s.ru.takeAll s.blc.close.time (barrierEvents s.blc.link s.blc.close.link) := rfl
@[simp] theorem State.closeCycle_mc (s : State) : (s.closeCycle).mc = s.mc := rfl
@[simp] theorem State.closeCycle_blc (s : State) : (s.closeCycle).blc = s.blc.close := rfl
@[simp] theorem State.closeCycle_barrier (s : State) : (s.closeCycle).barrier = s.barrier := rfl
@[simp] theorem State.closeCycle_field (s : State) : (s.closeCycle).field = s.field := rfl
@[simp] theorem State.closeCycle_held (s : State) : (s.closeCycle).held = s.held := rfl
@[simp] theorem State.closeCycle_lastCause (s : State) : (s.closeCycle).lastCause = s.lastCause := rfl
@[simp] theorem State.closeCycle_pending (s : State) : (s.closeCycle).pending = s.pending := rfl

/-! ## State.advance -/

@[simp] theorem State.advance_ce (s : State) : (s.advance).ce = s.ce.tick := rfl
@[simp] theorem State.advance_ct (s : State) : (s.advance).ct = s.ct.tick := rfl
@[simp] theorem State.advance_aq (s : State) : (s.advance).aq = s.aq := rfl
@[simp] theorem State.advance_ru (s : State) : (s.advance).ru = s.ru.tick := rfl
@[simp] theorem State.advance_mc (s : State) : (s.advance).mc = s.mc := rfl
@[simp] theorem State.advance_blc (s : State) : (s.advance).blc = { s.blc with time := s.blc.time + 1, goodTaken := false } := rfl
@[simp] theorem State.advance_barrier (s : State) : (s.advance).barrier = { s.barrier with status := [], late := s.barrier.status } := rfl
@[simp] theorem State.advance_field (s : State) : (s.advance).field = s.field := rfl
@[simp] theorem State.advance_held (s : State) : (s.advance).held = s.held := rfl
@[simp] theorem State.advance_lastCause (s : State) : (s.advance).lastCause = s.lastCause := rfl
@[simp] theorem State.advance_pending (s : State) : (s.advance).pending = s.pending := rfl

/-! ## State.controlReset -/

@[simp] theorem State.controlReset_hlk (s : State) (k : ResetCause) (p : BitVec 2) : (s.controlReset k p).hlk = HostLink.reset p := rfl
@[simp] theorem State.controlReset_ce (s : State) (k : ResetCause) (p : BitVec 2) : (s.controlReset k p).ce = CommandEngine.reset := rfl
@[simp] theorem State.controlReset_ct (s : State) (k : ResetCause) (p : BitVec 2) : (s.controlReset k p).ct = ChannelTable.reset s.ct.nstopPin := rfl
@[simp] theorem State.controlReset_aq (s : State) (k : ResetCause) (p : BitVec 2) : (s.controlReset k p).aq = [] := rfl
@[simp] theorem State.controlReset_ru (s : State) (k : ResetCause) (p : BitVec 2) : (s.controlReset k p).ru = ReportUnit.reset k := rfl
@[simp] theorem State.controlReset_mc (s : State) (k : ResetCause) (p : BitVec 2) : (s.controlReset k p).mc = MarkCapture.reset s.mc.pin := rfl
@[simp] theorem State.controlReset_blc (s : State) (k : ResetCause) (p : BitVec 2) : (s.controlReset k p).blc = BarrierController.reset := rfl
@[simp] theorem State.controlReset_barrier (s : State) (k : ResetCause) (p : BitVec 2) : (s.controlReset k p).barrier = { s.barrier with drive := some DriveFrame.first } := rfl
@[simp] theorem State.controlReset_field (s : State) (k : ResetCause) (p : BitVec 2) : (s.controlReset k p).field = s.field := rfl
@[simp] theorem State.controlReset_held (s : State) (k : ResetCause) (p : BitVec 2) : (s.controlReset k p).held = none := rfl
@[simp] theorem State.controlReset_lastCause (s : State) (k : ResetCause) (p : BitVec 2) : (s.controlReset k p).lastCause = k := rfl
@[simp] theorem State.controlReset_pending (s : State) (k : ResetCause) (p : BitVec 2) : (s.controlReset k p).pending = s.pending := rfl

/-! ## Operations with cases -/

@[simp] theorem State.applyActions_hlk (s : State) (as : List Action) : (s.applyActions as).hlk = s.hlk := by
  induction as generalizing s with
  | nil => rfl
  | cons a as ih => exact (ih _).trans rfl
@[simp] theorem State.applyActions_ce (s : State) (as : List Action) : (s.applyActions as).ce = s.ce := by
  induction as generalizing s with
  | nil => rfl
  | cons a as ih => exact (ih _).trans rfl
@[simp] theorem State.applyActions_mc (s : State) (as : List Action) : (s.applyActions as).mc = s.mc := by
  induction as generalizing s with
  | nil => rfl
  | cons a as ih => exact (ih _).trans rfl
@[simp] theorem State.applyActions_blc (s : State) (as : List Action) : (s.applyActions as).blc = s.blc := by
  induction as generalizing s with
  | nil => rfl
  | cons a as ih => exact (ih _).trans rfl
@[simp] theorem State.applyActions_barrier (s : State) (as : List Action) : (s.applyActions as).barrier = s.barrier := by
  induction as generalizing s with
  | nil => rfl
  | cons a as ih => exact (ih _).trans rfl
@[simp] theorem State.applyActions_field (s : State) (as : List Action) : (s.applyActions as).field = s.field := by
  induction as generalizing s with
  | nil => rfl
  | cons a as ih => exact (ih _).trans rfl
@[simp] theorem State.applyActions_held (s : State) (as : List Action) : (s.applyActions as).held = s.held := by
  induction as generalizing s with
  | nil => rfl
  | cons a as ih => exact (ih _).trans rfl
@[simp] theorem State.applyActions_lastCause (s : State) (as : List Action) : (s.applyActions as).lastCause = s.lastCause := by
  induction as generalizing s with
  | nil => rfl
  | cons a as ih => exact (ih _).trans rfl
@[simp] theorem State.applyActions_pending (s : State) (as : List Action) : (s.applyActions as).pending = s.pending := by
  induction as generalizing s with
  | nil => rfl
  | cons a as ih => exact (ih _).trans rfl
@[simp] theorem State.applyDue_hlk (s : State) : (s.applyDue).hlk = s.hlk := by
  simp [State.applyDue]
@[simp] theorem State.applyDue_ce (s : State) : (s.applyDue).ce = s.ce := by
  simp [State.applyDue]
@[simp] theorem State.applyDue_mc (s : State) : (s.applyDue).mc = s.mc := by
  simp [State.applyDue]
@[simp] theorem State.applyDue_blc (s : State) : (s.applyDue).blc = s.blc := by
  simp [State.applyDue]
@[simp] theorem State.applyDue_barrier (s : State) : (s.applyDue).barrier = s.barrier := by
  simp [State.applyDue]
@[simp] theorem State.applyDue_field (s : State) : (s.applyDue).field = s.field := by
  simp [State.applyDue]
@[simp] theorem State.applyDue_held (s : State) : (s.applyDue).held = s.held := by
  simp [State.applyDue]
@[simp] theorem State.applyDue_lastCause (s : State) : (s.applyDue).lastCause = s.lastCause := by
  simp [State.applyDue]
@[simp] theorem State.applyDue_pending (s : State) : (s.applyDue).pending = s.pending := by
  simp [State.applyDue]
@[simp] theorem State.applyMarks_hlk (s : State) : (s.applyMarks).hlk = s.hlk := by
  simp [State.applyMarks]
@[simp] theorem State.applyMarks_ce (s : State) : (s.applyMarks).ce = s.ce := by
  simp [State.applyMarks]
@[simp] theorem State.applyMarks_mc (s : State) : (s.applyMarks).mc = s.mc := by
  simp [State.applyMarks]
@[simp] theorem State.applyMarks_blc (s : State) : (s.applyMarks).blc = s.blc := by
  simp [State.applyMarks]
@[simp] theorem State.applyMarks_barrier (s : State) : (s.applyMarks).barrier = s.barrier := by
  simp [State.applyMarks]
@[simp] theorem State.applyMarks_field (s : State) : (s.applyMarks).field = s.field := by
  simp [State.applyMarks]
@[simp] theorem State.applyMarks_held (s : State) : (s.applyMarks).held = s.held := by
  simp [State.applyMarks]
@[simp] theorem State.applyMarks_lastCause (s : State) : (s.applyMarks).lastCause = s.lastCause := by
  simp [State.applyMarks]
@[simp] theorem State.applyMarks_pending (s : State) : (s.applyMarks).pending = s.pending := by
  simp [State.applyMarks]
@[simp] theorem State.endSilenceIfAny_ce (s : State) : (s.endSilenceIfAny).ce = s.ce := by
  unfold State.endSilenceIfAny; split <;> rfl
@[simp] theorem State.endSilenceIfAny_aq (s : State) : (s.endSilenceIfAny).aq = s.aq := by
  unfold State.endSilenceIfAny; split <;> rfl
@[simp] theorem State.endSilenceIfAny_mc (s : State) : (s.endSilenceIfAny).mc = s.mc := by
  unfold State.endSilenceIfAny; split <;> rfl
@[simp] theorem State.endSilenceIfAny_blc (s : State) : (s.endSilenceIfAny).blc = s.blc := by
  unfold State.endSilenceIfAny; split <;> rfl
@[simp] theorem State.endSilenceIfAny_barrier (s : State) : (s.endSilenceIfAny).barrier = s.barrier := by
  unfold State.endSilenceIfAny; split <;> rfl
@[simp] theorem State.endSilenceIfAny_field (s : State) : (s.endSilenceIfAny).field = s.field := by
  unfold State.endSilenceIfAny; split <;> rfl
@[simp] theorem State.endSilenceIfAny_held (s : State) : (s.endSilenceIfAny).held = s.held := by
  unfold State.endSilenceIfAny; split <;> rfl
@[simp] theorem State.endSilenceIfAny_lastCause (s : State) : (s.endSilenceIfAny).lastCause = s.lastCause := by
  unfold State.endSilenceIfAny; split <;> rfl
@[simp] theorem State.endSilenceIfAny_pending (s : State) : (s.endSilenceIfAny).pending = s.pending := by
  unfold State.endSilenceIfAny; split <;> rfl
@[simp] theorem State.hostHeard_ce (s : State) : (s.hostHeard).ce = s.ce := by
  unfold State.hostHeard; split <;> rfl
@[simp] theorem State.hostHeard_aq (s : State) : (s.hostHeard).aq = s.aq := by
  unfold State.hostHeard; split <;> rfl
@[simp] theorem State.hostHeard_mc (s : State) : (s.hostHeard).mc = s.mc := by
  unfold State.hostHeard; split <;> rfl
@[simp] theorem State.hostHeard_blc (s : State) : (s.hostHeard).blc = s.blc := by
  unfold State.hostHeard; split <;> rfl
@[simp] theorem State.hostHeard_barrier (s : State) : (s.hostHeard).barrier = s.barrier := by
  unfold State.hostHeard; split <;> rfl
@[simp] theorem State.hostHeard_field (s : State) : (s.hostHeard).field = s.field := by
  unfold State.hostHeard; split <;> rfl
@[simp] theorem State.hostHeard_held (s : State) : (s.hostHeard).held = s.held := by
  unfold State.hostHeard; split <;> rfl
@[simp] theorem State.hostHeard_lastCause (s : State) : (s.hostHeard).lastCause = s.lastCause := by
  unfold State.hostHeard; split <;> rfl
@[simp] theorem State.hostHeard_pending (s : State) : (s.hostHeard).pending = s.pending := by
  unfold State.hostHeard; split <;> rfl
@[simp] theorem State.rxError_ce (s : State) (r : RxReason) : (s.rxError r).ce = s.ce := by
  unfold State.rxError; split <;> rfl
@[simp] theorem State.rxError_ct (s : State) (r : RxReason) : (s.rxError r).ct = s.ct := by
  unfold State.rxError; split <;> rfl
@[simp] theorem State.rxError_aq (s : State) (r : RxReason) : (s.rxError r).aq = s.aq := by
  unfold State.rxError; split <;> rfl
@[simp] theorem State.rxError_mc (s : State) (r : RxReason) : (s.rxError r).mc = s.mc := by
  unfold State.rxError; split <;> rfl
@[simp] theorem State.rxError_blc (s : State) (r : RxReason) : (s.rxError r).blc = s.blc := by
  unfold State.rxError; split <;> rfl
@[simp] theorem State.rxError_barrier (s : State) (r : RxReason) : (s.rxError r).barrier = s.barrier := by
  unfold State.rxError; split <;> rfl
@[simp] theorem State.rxError_field (s : State) (r : RxReason) : (s.rxError r).field = s.field := by
  unfold State.rxError; split <;> rfl
@[simp] theorem State.rxError_held (s : State) (r : RxReason) : (s.rxError r).held = s.held := by
  unfold State.rxError; split <;> rfl
@[simp] theorem State.rxError_lastCause (s : State) (r : RxReason) : (s.rxError r).lastCause = s.lastCause := by
  unfold State.rxError; split <;> rfl
@[simp] theorem State.rxError_pending (s : State) (r : RxReason) : (s.rxError r).pending = s.pending := by
  unfold State.rxError; split <;> rfl
@[simp] theorem State.discardFrame_ce (s : State) (r : RxReason) : (s.discardFrame r).ce = s.ce := by
  simp [State.discardFrame]
@[simp] theorem State.discardFrame_ct (s : State) (r : RxReason) : (s.discardFrame r).ct = s.ct := by
  simp [State.discardFrame]
@[simp] theorem State.discardFrame_aq (s : State) (r : RxReason) : (s.discardFrame r).aq = s.aq := by
  simp [State.discardFrame]
@[simp] theorem State.discardFrame_mc (s : State) (r : RxReason) : (s.discardFrame r).mc = s.mc := by
  simp [State.discardFrame]
@[simp] theorem State.discardFrame_blc (s : State) (r : RxReason) : (s.discardFrame r).blc = s.blc := by
  simp [State.discardFrame]
@[simp] theorem State.discardFrame_barrier (s : State) (r : RxReason) : (s.discardFrame r).barrier = s.barrier := by
  simp [State.discardFrame]
@[simp] theorem State.discardFrame_field (s : State) (r : RxReason) : (s.discardFrame r).field = s.field := by
  simp [State.discardFrame]
@[simp] theorem State.discardFrame_held (s : State) (r : RxReason) : (s.discardFrame r).held = s.held := by
  simp [State.discardFrame]
@[simp] theorem State.discardFrame_lastCause (s : State) (r : RxReason) : (s.discardFrame r).lastCause = s.lastCause := by
  simp [State.discardFrame]
@[simp] theorem State.discardFrame_pending (s : State) (r : RxReason) : (s.discardFrame r).pending = s.pending := by
  simp [State.discardFrame]
@[simp] theorem State.busyIfRoom_ce (s : State) (f : Frame) : (s.busyIfRoom f).ce = s.ce := by
  unfold State.busyIfRoom; split <;> rfl
@[simp] theorem State.busyIfRoom_ct (s : State) (f : Frame) : (s.busyIfRoom f).ct = s.ct := by
  unfold State.busyIfRoom; split <;> rfl
@[simp] theorem State.busyIfRoom_aq (s : State) (f : Frame) : (s.busyIfRoom f).aq = s.aq := by
  unfold State.busyIfRoom; split <;> rfl
@[simp] theorem State.busyIfRoom_ru (s : State) (f : Frame) : (s.busyIfRoom f).ru = s.ru := by
  unfold State.busyIfRoom; split <;> rfl
@[simp] theorem State.busyIfRoom_mc (s : State) (f : Frame) : (s.busyIfRoom f).mc = s.mc := by
  unfold State.busyIfRoom; split <;> rfl
@[simp] theorem State.busyIfRoom_blc (s : State) (f : Frame) : (s.busyIfRoom f).blc = s.blc := by
  unfold State.busyIfRoom; split <;> rfl
@[simp] theorem State.busyIfRoom_barrier (s : State) (f : Frame) : (s.busyIfRoom f).barrier = s.barrier := by
  unfold State.busyIfRoom; split <;> rfl
@[simp] theorem State.busyIfRoom_field (s : State) (f : Frame) : (s.busyIfRoom f).field = s.field := by
  unfold State.busyIfRoom; split <;> rfl
@[simp] theorem State.busyIfRoom_held (s : State) (f : Frame) : (s.busyIfRoom f).held = s.held := by
  unfold State.busyIfRoom; split <;> rfl
@[simp] theorem State.busyIfRoom_lastCause (s : State) (f : Frame) : (s.busyIfRoom f).lastCause = s.lastCause := by
  unfold State.busyIfRoom; split <;> rfl
@[simp] theorem State.busyIfRoom_pending (s : State) (f : Frame) : (s.busyIfRoom f).pending = s.pending := by
  unfold State.busyIfRoom; split <;> rfl
@[simp] theorem State.dropFrame_ce (s : State) (f : Frame) : (s.dropFrame f).ce = s.ce := by
  simp [State.dropFrame]
@[simp] theorem State.dropFrame_aq (s : State) (f : Frame) : (s.dropFrame f).aq = s.aq := by
  simp [State.dropFrame]
@[simp] theorem State.dropFrame_mc (s : State) (f : Frame) : (s.dropFrame f).mc = s.mc := by
  simp [State.dropFrame]
@[simp] theorem State.dropFrame_blc (s : State) (f : Frame) : (s.dropFrame f).blc = s.blc := by
  simp [State.dropFrame]
@[simp] theorem State.dropFrame_barrier (s : State) (f : Frame) : (s.dropFrame f).barrier = s.barrier := by
  simp [State.dropFrame]
@[simp] theorem State.dropFrame_field (s : State) (f : Frame) : (s.dropFrame f).field = s.field := by
  simp [State.dropFrame]
@[simp] theorem State.dropFrame_held (s : State) (f : Frame) : (s.dropFrame f).held = s.held := by
  simp [State.dropFrame]
@[simp] theorem State.dropFrame_lastCause (s : State) (f : Frame) : (s.dropFrame f).lastCause = s.lastCause := by
  simp [State.dropFrame]
@[simp] theorem State.dropFrame_pending (s : State) (f : Frame) : (s.dropFrame f).pending = s.pending := by
  simp [State.dropFrame]
@[simp] theorem State.offerFrame_ce (s : State) (f : Frame) : (s.offerFrame f).ce = s.ce := by
  unfold State.offerFrame; split <;> simp
@[simp] theorem State.offerFrame_aq (s : State) (f : Frame) : (s.offerFrame f).aq = s.aq := by
  unfold State.offerFrame; split <;> simp
@[simp] theorem State.offerFrame_mc (s : State) (f : Frame) : (s.offerFrame f).mc = s.mc := by
  unfold State.offerFrame; split <;> simp
@[simp] theorem State.offerFrame_blc (s : State) (f : Frame) : (s.offerFrame f).blc = s.blc := by
  unfold State.offerFrame; split <;> simp
@[simp] theorem State.offerFrame_barrier (s : State) (f : Frame) : (s.offerFrame f).barrier = s.barrier := by
  unfold State.offerFrame; split <;> simp
@[simp] theorem State.offerFrame_field (s : State) (f : Frame) : (s.offerFrame f).field = s.field := by
  unfold State.offerFrame; split <;> simp
@[simp] theorem State.offerFrame_held (s : State) (f : Frame) : (s.offerFrame f).held = s.held := by
  unfold State.offerFrame; split <;> simp
@[simp] theorem State.offerFrame_lastCause (s : State) (f : Frame) : (s.offerFrame f).lastCause = s.lastCause := by
  unfold State.offerFrame; split <;> simp
@[simp] theorem State.offerFrame_pending (s : State) (f : Frame) : (s.offerFrame f).pending = s.pending := by
  unfold State.offerFrame; split <;> simp
@[simp] theorem State.takeAck_ce (s : State) (f : Frame) : (s.takeAck f).ce = s.ce := by
  unfold State.takeAck; split <;> simp
@[simp] theorem State.takeAck_aq (s : State) (f : Frame) : (s.takeAck f).aq = s.aq := by
  unfold State.takeAck; split <;> simp
@[simp] theorem State.takeAck_mc (s : State) (f : Frame) : (s.takeAck f).mc = s.mc := by
  unfold State.takeAck; split <;> simp
@[simp] theorem State.takeAck_blc (s : State) (f : Frame) : (s.takeAck f).blc = s.blc := by
  unfold State.takeAck; split <;> simp
@[simp] theorem State.takeAck_barrier (s : State) (f : Frame) : (s.takeAck f).barrier = s.barrier := by
  unfold State.takeAck; split <;> simp
@[simp] theorem State.takeAck_field (s : State) (f : Frame) : (s.takeAck f).field = s.field := by
  unfold State.takeAck; split <;> simp
@[simp] theorem State.takeAck_held (s : State) (f : Frame) : (s.takeAck f).held = s.held := by
  unfold State.takeAck; split <;> simp
@[simp] theorem State.takeAck_lastCause (s : State) (f : Frame) : (s.takeAck f).lastCause = s.lastCause := by
  unfold State.takeAck; split <;> simp
@[simp] theorem State.takeAck_pending (s : State) (f : Frame) : (s.takeAck f).pending = s.pending := by
  unfold State.takeAck; split <;> simp
@[simp] theorem State.recogniseStop_hlk (s : State) : (s.recogniseStop).hlk = s.hlk := by
  unfold State.recogniseStop; split <;> rfl
@[simp] theorem State.recogniseStop_ce (s : State) : (s.recogniseStop).ce = s.ce := by
  unfold State.recogniseStop; split <;> rfl
@[simp] theorem State.recogniseStop_mc (s : State) : (s.recogniseStop).mc = s.mc := by
  unfold State.recogniseStop; split <;> rfl
@[simp] theorem State.recogniseStop_blc (s : State) : (s.recogniseStop).blc = s.blc := by
  unfold State.recogniseStop; split <;> rfl
@[simp] theorem State.recogniseStop_barrier (s : State) : (s.recogniseStop).barrier = s.barrier := by
  unfold State.recogniseStop; split <;> rfl
@[simp] theorem State.recogniseStop_field (s : State) : (s.recogniseStop).field = s.field := by
  unfold State.recogniseStop; split <;> rfl
@[simp] theorem State.recogniseStop_held (s : State) : (s.recogniseStop).held = s.held := by
  unfold State.recogniseStop; split <;> rfl
@[simp] theorem State.recogniseStop_lastCause (s : State) : (s.recogniseStop).lastCause = s.lastCause := by
  unfold State.recogniseStop; split <;> rfl
@[simp] theorem State.recogniseStop_pending (s : State) : (s.recogniseStop).pending = s.pending := by
  unfold State.recogniseStop; split <;> rfl
@[simp] theorem State.recognisedEdge_hlk (s : State) : (s.recognisedEdge).hlk = s.hlk := by
  simp [State.recognisedEdge]
@[simp] theorem State.recognisedEdge_ce (s : State) : (s.recognisedEdge).ce = s.ce := by
  simp [State.recognisedEdge]
@[simp] theorem State.recognisedEdge_blc (s : State) : (s.recognisedEdge).blc = s.blc := by
  simp [State.recognisedEdge]
@[simp] theorem State.recognisedEdge_barrier (s : State) : (s.recognisedEdge).barrier = s.barrier := by
  simp [State.recognisedEdge]
@[simp] theorem State.recognisedEdge_field (s : State) : (s.recognisedEdge).field = s.field := by
  simp [State.recognisedEdge]
@[simp] theorem State.recognisedEdge_held (s : State) : (s.recognisedEdge).held = s.held := by
  simp [State.recognisedEdge]
@[simp] theorem State.recognisedEdge_lastCause (s : State) : (s.recognisedEdge).lastCause = s.lastCause := by
  simp [State.recognisedEdge]
@[simp] theorem State.recognisedEdge_pending (s : State) : (s.recognisedEdge).pending = s.pending := by
  simp [State.recognisedEdge]
@[simp] theorem State.edgeCompletes_hlk (s : State) : (s.edgeCompletes).hlk = s.hlk := by
  unfold State.edgeCompletes; split <;> simp
@[simp] theorem State.edgeCompletes_ce (s : State) : (s.edgeCompletes).ce = s.ce := by
  unfold State.edgeCompletes; split <;> simp
@[simp] theorem State.edgeCompletes_blc (s : State) : (s.edgeCompletes).blc = s.blc := by
  unfold State.edgeCompletes; split <;> simp
@[simp] theorem State.edgeCompletes_barrier (s : State) : (s.edgeCompletes).barrier = s.barrier := by
  unfold State.edgeCompletes; split <;> simp
@[simp] theorem State.edgeCompletes_field (s : State) : (s.edgeCompletes).field = s.field := by
  unfold State.edgeCompletes; split <;> simp
@[simp] theorem State.edgeCompletes_held (s : State) : (s.edgeCompletes).held = s.held := by
  unfold State.edgeCompletes; split <;> simp
@[simp] theorem State.edgeCompletes_lastCause (s : State) : (s.edgeCompletes).lastCause = s.lastCause := by
  unfold State.edgeCompletes; split <;> simp
@[simp] theorem State.edgeCompletes_pending (s : State) : (s.edgeCompletes).pending = s.pending := by
  unfold State.edgeCompletes; split <;> simp
@[simp] theorem State.sendFrame_hlk (s : State) : (s.sendFrame).hlk = s.hlk := by
  unfold State.sendFrame; split <;> rfl
@[simp] theorem State.sendFrame_ce (s : State) : (s.sendFrame).ce = s.ce := by
  unfold State.sendFrame; split <;> rfl
@[simp] theorem State.sendFrame_aq (s : State) : (s.sendFrame).aq = s.aq := by
  unfold State.sendFrame; split <;> rfl
@[simp] theorem State.sendFrame_ru (s : State) : (s.sendFrame).ru = s.ru := by
  unfold State.sendFrame; split <;> rfl
@[simp] theorem State.sendFrame_mc (s : State) : (s.sendFrame).mc = s.mc := by
  unfold State.sendFrame; split <;> rfl
@[simp] theorem State.sendFrame_field (s : State) : (s.sendFrame).field = s.field := by
  unfold State.sendFrame; split <;> rfl
@[simp] theorem State.sendFrame_held (s : State) : (s.sendFrame).held = s.held := by
  unfold State.sendFrame; split <;> rfl
@[simp] theorem State.sendFrame_lastCause (s : State) : (s.sendFrame).lastCause = s.lastCause := by
  unfold State.sendFrame; split <;> rfl
@[simp] theorem State.sendFrame_pending (s : State) : (s.sendFrame).pending = s.pending := by
  unfold State.sendFrame; split <;> rfl
@[simp] theorem State.endWait_ct (s : State) (w : WaitingCommand) (x : Status) : (s.endWait w x).ct = s.ct := by
  simp [State.endWait]
@[simp] theorem State.endWait_aq (s : State) (w : WaitingCommand) (x : Status) : (s.endWait w x).aq = s.aq := by
  simp [State.endWait]
@[simp] theorem State.endWait_ru (s : State) (w : WaitingCommand) (x : Status) : (s.endWait w x).ru = s.ru := by
  simp [State.endWait]
@[simp] theorem State.endWait_mc (s : State) (w : WaitingCommand) (x : Status) : (s.endWait w x).mc = s.mc := by
  simp [State.endWait]
@[simp] theorem State.endWait_blc (s : State) (w : WaitingCommand) (x : Status) : (s.endWait w x).blc = s.blc := by
  simp [State.endWait]
@[simp] theorem State.endWait_barrier (s : State) (w : WaitingCommand) (x : Status) : (s.endWait w x).barrier = s.barrier := by
  simp [State.endWait]
@[simp] theorem State.endWait_field (s : State) (w : WaitingCommand) (x : Status) : (s.endWait w x).field = s.field := by
  simp [State.endWait]
@[simp] theorem State.endWait_held (s : State) (w : WaitingCommand) (x : Status) : (s.endWait w x).held = s.held := by
  simp [State.endWait]
@[simp] theorem State.endWait_lastCause (s : State) (w : WaitingCommand) (x : Status) : (s.endWait w x).lastCause = s.lastCause := by
  simp [State.endWait]
@[simp] theorem State.endWait_pending (s : State) (w : WaitingCommand) (x : Status) : (s.endWait w x).pending = s.pending := by
  simp [State.endWait]
@[simp] theorem State.testWait_ct (s : State) : (s.testWait).ct = s.ct := by
  unfold State.testWait; split
  · split <;> simp
  · rfl
  · rfl
@[simp] theorem State.testWait_aq (s : State) : (s.testWait).aq = s.aq := by
  unfold State.testWait; split
  · split <;> simp
  · rfl
  · rfl
@[simp] theorem State.testWait_ru (s : State) : (s.testWait).ru = s.ru := by
  unfold State.testWait; split
  · split <;> simp
  · rfl
  · rfl
@[simp] theorem State.testWait_mc (s : State) : (s.testWait).mc = s.mc := by
  unfold State.testWait; split
  · split <;> simp
  · rfl
  · rfl
@[simp] theorem State.testWait_blc (s : State) : (s.testWait).blc = s.blc := by
  unfold State.testWait; split
  · split <;> simp
  · rfl
  · rfl
@[simp] theorem State.testWait_barrier (s : State) : (s.testWait).barrier = s.barrier := by
  unfold State.testWait; split
  · split <;> simp
  · rfl
  · rfl
@[simp] theorem State.testWait_field (s : State) : (s.testWait).field = s.field := by
  unfold State.testWait; split
  · split <;> simp
  · rfl
  · rfl
@[simp] theorem State.testWait_held (s : State) : (s.testWait).held = s.held := by
  unfold State.testWait; split
  · split <;> simp
  · rfl
  · rfl
@[simp] theorem State.testWait_lastCause (s : State) : (s.testWait).lastCause = s.lastCause := by
  unfold State.testWait; split
  · split <;> simp
  · rfl
  · rfl
@[simp] theorem State.testWait_pending (s : State) : (s.testWait).pending = s.pending := by
  unfold State.testWait; split
  · split <;> simp
  · rfl
  · rfl
@[simp] theorem State.waitExpiry_ct (s : State) : (s.waitExpiry).ct = s.ct := by
  unfold State.waitExpiry; split <;> simp
@[simp] theorem State.waitExpiry_aq (s : State) : (s.waitExpiry).aq = s.aq := by
  unfold State.waitExpiry; split <;> simp
@[simp] theorem State.waitExpiry_ru (s : State) : (s.waitExpiry).ru = s.ru := by
  unfold State.waitExpiry; split <;> simp
@[simp] theorem State.waitExpiry_mc (s : State) : (s.waitExpiry).mc = s.mc := by
  unfold State.waitExpiry; split <;> simp
@[simp] theorem State.waitExpiry_blc (s : State) : (s.waitExpiry).blc = s.blc := by
  unfold State.waitExpiry; split <;> simp
@[simp] theorem State.waitExpiry_barrier (s : State) : (s.waitExpiry).barrier = s.barrier := by
  unfold State.waitExpiry; split <;> simp
@[simp] theorem State.waitExpiry_field (s : State) : (s.waitExpiry).field = s.field := by
  unfold State.waitExpiry; split <;> simp
@[simp] theorem State.waitExpiry_held (s : State) : (s.waitExpiry).held = s.held := by
  unfold State.waitExpiry; split <;> simp
@[simp] theorem State.waitExpiry_lastCause (s : State) : (s.waitExpiry).lastCause = s.lastCause := by
  unfold State.waitExpiry; split <;> simp
@[simp] theorem State.waitExpiry_pending (s : State) : (s.waitExpiry).pending = s.pending := by
  unfold State.waitExpiry; split <;> simp
@[simp] theorem State.takeAdvance_mc (s : State) (h : AdvanceHappening) : (s.takeAdvance h).mc = s.mc := by
  cases h <;> simp only [State.takeAdvance] <;> (try split) <;> simp
@[simp] theorem State.takeAdvance_blc (s : State) (h : AdvanceHappening) : (s.takeAdvance h).blc = s.blc := by
  cases h <;> simp only [State.takeAdvance] <;> (try split) <;> simp
@[simp] theorem State.takeAdvance_barrier (s : State) (h : AdvanceHappening) : (s.takeAdvance h).barrier = s.barrier := by
  cases h <;> simp only [State.takeAdvance] <;> (try split) <;> simp
@[simp] theorem State.takeAdvance_field (s : State) (h : AdvanceHappening) : (s.takeAdvance h).field = s.field := by
  cases h <;> simp only [State.takeAdvance] <;> (try split) <;> simp
@[simp] theorem State.takeAdvance_held (s : State) (h : AdvanceHappening) : (s.takeAdvance h).held = s.held := by
  cases h <;> simp only [State.takeAdvance] <;> (try split) <;> simp
@[simp] theorem State.takeAdvance_lastCause (s : State) (h : AdvanceHappening) : (s.takeAdvance h).lastCause = s.lastCause := by
  cases h <;> simp only [State.takeAdvance] <;> (try split) <;> simp
@[simp] theorem State.takeAdvance_pending (s : State) (h : AdvanceHappening) : (s.takeAdvance h).pending = s.pending := by
  cases h <;> simp only [State.takeAdvance] <;> (try split) <;> simp
@[simp] theorem State.takeStatus_aq (s : State) (f : StatusFrame) : (s.takeStatus f).aq = s.aq := by
  simp [State.takeStatus]
@[simp] theorem State.takeStatus_mc (s : State) (f : StatusFrame) : (s.takeStatus f).mc = s.mc := by
  simp [State.takeStatus]
@[simp] theorem State.takeStatus_barrier (s : State) (f : StatusFrame) : (s.takeStatus f).barrier = s.barrier := by
  simp [State.takeStatus]
@[simp] theorem State.takeStatus_field (s : State) (f : StatusFrame) : (s.takeStatus f).field = s.field := by
  simp [State.takeStatus]
@[simp] theorem State.takeStatus_held (s : State) (f : StatusFrame) : (s.takeStatus f).held = s.held := by
  simp [State.takeStatus]
@[simp] theorem State.takeStatus_lastCause (s : State) (f : StatusFrame) : (s.takeStatus f).lastCause = s.lastCause := by
  simp [State.takeStatus]
@[simp] theorem State.takeStatus_pending (s : State) (f : StatusFrame) : (s.takeStatus f).pending = s.pending := by
  simp [State.takeStatus]
@[simp] theorem State.receiveStatus_aq (s : State) (k : Nat) : (s.receiveStatus k).aq = s.aq := by
  unfold State.receiveStatus; split <;> simp
@[simp] theorem State.receiveStatus_mc (s : State) (k : Nat) : (s.receiveStatus k).mc = s.mc := by
  unfold State.receiveStatus; split <;> simp
@[simp] theorem State.receiveStatus_field (s : State) (k : Nat) : (s.receiveStatus k).field = s.field := by
  unfold State.receiveStatus; split <;> simp
@[simp] theorem State.receiveStatus_held (s : State) (k : Nat) : (s.receiveStatus k).held = s.held := by
  unfold State.receiveStatus; split <;> simp
@[simp] theorem State.receiveStatus_lastCause (s : State) (k : Nat) : (s.receiveStatus k).lastCause = s.lastCause := by
  unfold State.receiveStatus; split <;> simp
@[simp] theorem State.receiveStatus_pending (s : State) (k : Nat) : (s.receiveStatus k).pending = s.pending := by
  unfold State.receiveStatus; split <;> simp
@[simp] theorem State.conclude_ct (s : State) (f : Frame) (e : Ending) : (s.conclude f e).ct = s.ct := by
  cases e <;> rfl
@[simp] theorem State.conclude_aq (s : State) (f : Frame) (e : Ending) : (s.conclude f e).aq = s.aq := by
  cases e <;> rfl
@[simp] theorem State.conclude_ru (s : State) (f : Frame) (e : Ending) : (s.conclude f e).ru = s.ru := by
  cases e <;> rfl
@[simp] theorem State.conclude_mc (s : State) (f : Frame) (e : Ending) : (s.conclude f e).mc = s.mc := by
  cases e <;> rfl
@[simp] theorem State.conclude_blc (s : State) (f : Frame) (e : Ending) : (s.conclude f e).blc = s.blc := by
  cases e <;> rfl
@[simp] theorem State.conclude_barrier (s : State) (f : Frame) (e : Ending) : (s.conclude f e).barrier = s.barrier := by
  cases e <;> rfl
@[simp] theorem State.conclude_field (s : State) (f : Frame) (e : Ending) : (s.conclude f e).field = s.field := by
  cases e <;> rfl
@[simp] theorem State.conclude_held (s : State) (f : Frame) (e : Ending) : (s.conclude f e).held = s.held := by
  cases e <;> rfl
@[simp] theorem State.conclude_lastCause (s : State) (f : Frame) (e : Ending) : (s.conclude f e).lastCause = s.lastCause := by
  cases e <;> rfl
@[simp] theorem State.conclude_pending (s : State) (f : Frame) (e : Ending) : (s.conclude f e).pending = s.pending := by
  cases e <;> rfl
@[simp] theorem State.sendResponse_ce (s : State) : (s.sendResponse).ce = s.ce := by
  unfold State.sendResponse; split <;> rfl
@[simp] theorem State.sendResponse_ct (s : State) : (s.sendResponse).ct = s.ct := by
  unfold State.sendResponse; split <;> rfl
@[simp] theorem State.sendResponse_aq (s : State) : (s.sendResponse).aq = s.aq := by
  unfold State.sendResponse; split <;> rfl
@[simp] theorem State.sendResponse_ru (s : State) : (s.sendResponse).ru = s.ru := by
  unfold State.sendResponse; split <;> rfl
@[simp] theorem State.sendResponse_mc (s : State) : (s.sendResponse).mc = s.mc := by
  unfold State.sendResponse; split <;> rfl
@[simp] theorem State.sendResponse_blc (s : State) : (s.sendResponse).blc = s.blc := by
  unfold State.sendResponse; split <;> rfl
@[simp] theorem State.sendResponse_barrier (s : State) : (s.sendResponse).barrier = s.barrier := by
  unfold State.sendResponse; split <;> rfl
@[simp] theorem State.sendResponse_field (s : State) : (s.sendResponse).field = s.field := by
  unfold State.sendResponse; split <;> rfl
@[simp] theorem State.sendResponse_held (s : State) : (s.sendResponse).held = s.held := by
  unfold State.sendResponse; split <;> rfl
@[simp] theorem State.sendResponse_lastCause (s : State) : (s.sendResponse).lastCause = s.lastCause := by
  unfold State.sendResponse; split <;> rfl
@[simp] theorem State.sendResponse_pending (s : State) : (s.sendResponse).pending = s.pending := by
  unfold State.sendResponse; split <;> rfl
@[simp] theorem State.sendSnapshot_ce (s : State) : (s.sendSnapshot).ce = s.ce := by
  unfold State.sendSnapshot; split <;> rfl
@[simp] theorem State.sendSnapshot_ct (s : State) : (s.sendSnapshot).ct = s.ct := by
  unfold State.sendSnapshot; split <;> rfl
@[simp] theorem State.sendSnapshot_aq (s : State) : (s.sendSnapshot).aq = s.aq := by
  unfold State.sendSnapshot; split <;> rfl
@[simp] theorem State.sendSnapshot_ru (s : State) : (s.sendSnapshot).ru = s.ru := by
  unfold State.sendSnapshot; split <;> rfl
@[simp] theorem State.sendSnapshot_blc (s : State) : (s.sendSnapshot).blc = s.blc := by
  unfold State.sendSnapshot; split <;> rfl
@[simp] theorem State.sendSnapshot_barrier (s : State) : (s.sendSnapshot).barrier = s.barrier := by
  unfold State.sendSnapshot; split <;> rfl
@[simp] theorem State.sendSnapshot_field (s : State) : (s.sendSnapshot).field = s.field := by
  unfold State.sendSnapshot; split <;> rfl
@[simp] theorem State.sendSnapshot_held (s : State) : (s.sendSnapshot).held = s.held := by
  unfold State.sendSnapshot; split <;> rfl
@[simp] theorem State.sendSnapshot_lastCause (s : State) : (s.sendSnapshot).lastCause = s.lastCause := by
  unfold State.sendSnapshot; split <;> rfl
@[simp] theorem State.sendSnapshot_pending (s : State) : (s.sendSnapshot).pending = s.pending := by
  unfold State.sendSnapshot; split <;> rfl
@[simp] theorem State.completeFrame_field (s : State) (p : BitVec 2) : (s.completeFrame p).field = s.field := by
  unfold State.completeFrame; split
  · split <;> rfl
  · rfl
  · rfl
@[simp] theorem State.completeFrame_pending (s : State) (p : BitVec 2) : (s.completeFrame p).pending = s.pending := by
  unfold State.completeFrame; split
  · split <;> rfl
  · rfl
  · rfl
@[simp] theorem State.takeDrive_hlk (s : State) (f : FieldSide) (d : DriveFrame) (x : FieldSense) : (s.takeDrive f d x).hlk = s.hlk := by
  unfold State.takeDrive; split <;> rfl
@[simp] theorem State.takeDrive_ce (s : State) (f : FieldSide) (d : DriveFrame) (x : FieldSense) : (s.takeDrive f d x).ce = s.ce := by
  unfold State.takeDrive; split <;> rfl
@[simp] theorem State.takeDrive_ct (s : State) (f : FieldSide) (d : DriveFrame) (x : FieldSense) : (s.takeDrive f d x).ct = s.ct := by
  unfold State.takeDrive; split <;> rfl
@[simp] theorem State.takeDrive_aq (s : State) (f : FieldSide) (d : DriveFrame) (x : FieldSense) : (s.takeDrive f d x).aq = s.aq := by
  unfold State.takeDrive; split <;> rfl
@[simp] theorem State.takeDrive_ru (s : State) (f : FieldSide) (d : DriveFrame) (x : FieldSense) : (s.takeDrive f d x).ru = s.ru := by
  unfold State.takeDrive; split <;> rfl
@[simp] theorem State.takeDrive_mc (s : State) (f : FieldSide) (d : DriveFrame) (x : FieldSense) : (s.takeDrive f d x).mc = s.mc := by
  unfold State.takeDrive; split <;> rfl
@[simp] theorem State.takeDrive_blc (s : State) (f : FieldSide) (d : DriveFrame) (x : FieldSense) : (s.takeDrive f d x).blc = s.blc := by
  unfold State.takeDrive; split <;> rfl
@[simp] theorem State.takeDrive_held (s : State) (f : FieldSide) (d : DriveFrame) (x : FieldSense) : (s.takeDrive f d x).held = s.held := by
  unfold State.takeDrive; split <;> rfl
@[simp] theorem State.takeDrive_lastCause (s : State) (f : FieldSide) (d : DriveFrame) (x : FieldSense) : (s.takeDrive f d x).lastCause = s.lastCause := by
  unfold State.takeDrive; split <;> rfl
@[simp] theorem State.takeDrive_pending (s : State) (f : FieldSide) (d : DriveFrame) (x : FieldSense) : (s.takeDrive f d x).pending = s.pending := by
  unfold State.takeDrive; split <;> rfl
@[simp] theorem State.driveArrives_hlk (s : State) (x : FieldSense) : (s.driveArrives x).hlk = s.hlk := by
  simp only [State.driveArrives]; split <;> simp
@[simp] theorem State.driveArrives_ce (s : State) (x : FieldSense) : (s.driveArrives x).ce = s.ce := by
  simp only [State.driveArrives]; split <;> simp
@[simp] theorem State.driveArrives_ct (s : State) (x : FieldSense) : (s.driveArrives x).ct = s.ct := by
  simp only [State.driveArrives]; split <;> simp
@[simp] theorem State.driveArrives_aq (s : State) (x : FieldSense) : (s.driveArrives x).aq = s.aq := by
  simp only [State.driveArrives]; split <;> simp
@[simp] theorem State.driveArrives_ru (s : State) (x : FieldSense) : (s.driveArrives x).ru = s.ru := by
  simp only [State.driveArrives]; split <;> simp
@[simp] theorem State.driveArrives_mc (s : State) (x : FieldSense) : (s.driveArrives x).mc = s.mc := by
  simp only [State.driveArrives]; split <;> simp
@[simp] theorem State.driveArrives_blc (s : State) (x : FieldSense) : (s.driveArrives x).blc = s.blc := by
  simp only [State.driveArrives]; split <;> simp
@[simp] theorem State.driveArrives_held (s : State) (x : FieldSense) : (s.driveArrives x).held = s.held := by
  simp only [State.driveArrives]; split <;> simp
@[simp] theorem State.driveArrives_lastCause (s : State) (x : FieldSense) : (s.driveArrives x).lastCause = s.lastCause := by
  simp only [State.driveArrives]; split <;> simp
@[simp] theorem State.driveArrives_pending (s : State) (x : FieldSense) : (s.driveArrives x).pending = s.pending := by
  simp only [State.driveArrives]; split <;> simp
@[simp] theorem State.watchExpires_hlk (s : State) : (s.watchExpires).hlk = s.hlk := by
  unfold State.watchExpires; split
  · split <;> rfl
  · rfl
@[simp] theorem State.watchExpires_ce (s : State) : (s.watchExpires).ce = s.ce := by
  unfold State.watchExpires; split
  · split <;> rfl
  · rfl
@[simp] theorem State.watchExpires_ct (s : State) : (s.watchExpires).ct = s.ct := by
  unfold State.watchExpires; split
  · split <;> rfl
  · rfl
@[simp] theorem State.watchExpires_aq (s : State) : (s.watchExpires).aq = s.aq := by
  unfold State.watchExpires; split
  · split <;> rfl
  · rfl
@[simp] theorem State.watchExpires_ru (s : State) : (s.watchExpires).ru = s.ru := by
  unfold State.watchExpires; split
  · split <;> rfl
  · rfl
@[simp] theorem State.watchExpires_mc (s : State) : (s.watchExpires).mc = s.mc := by
  unfold State.watchExpires; split
  · split <;> rfl
  · rfl
@[simp] theorem State.watchExpires_blc (s : State) : (s.watchExpires).blc = s.blc := by
  unfold State.watchExpires; split
  · split <;> rfl
  · rfl
@[simp] theorem State.watchExpires_held (s : State) : (s.watchExpires).held = s.held := by
  unfold State.watchExpires; split
  · split <;> rfl
  · rfl
@[simp] theorem State.watchExpires_lastCause (s : State) : (s.watchExpires).lastCause = s.lastCause := by
  unfold State.watchExpires; split
  · split <;> rfl
  · rfl
@[simp] theorem State.watchExpires_pending (s : State) : (s.watchExpires).pending = s.pending := by
  unfold State.watchExpires; split
  · split <;> rfl
  · rfl

theorem State.startCycle_unchanged {α : Type} (p : State → α) (hc : ∀ s : State, p s.closeCycle = p s)
    (ha : ∀ s : State, p s.advance = p s) (ht : ∀ (s : State) (h : AdvanceHappening), p (s.takeAdvance h) = p s)
    (hs : ∀ s : State, p s.sendFrame = p s) (s : State) (first : List AdvanceHappening) :
    p (s.startCycle first) = p s := by
  have hf : ∀ (l : List AdvanceHappening) (x : State), p (l.foldl State.takeAdvance x) = p x := by
    intro l
    induction l with
    | nil => intro x; rfl
    | cons h l ih => intro x; exact (ih _).trans (ht x h)
  unfold State.startCycle
  rw [hs, hf, ha, hc]

@[simp] theorem State.startCycle_mc (s : State) (first : List AdvanceHappening) : (s.startCycle first).mc = s.mc :=
  State.startCycle_unchanged (·.mc) (by simp) (by simp) (by simp) (by simp) s first
@[simp] theorem State.startCycle_field (s : State) (first : List AdvanceHappening) : (s.startCycle first).field = s.field :=
  State.startCycle_unchanged (·.field) (by simp) (by simp) (by simp) (by simp) s first
@[simp] theorem State.startCycle_held (s : State) (first : List AdvanceHappening) : (s.startCycle first).held = s.held :=
  State.startCycle_unchanged (·.held) (by simp) (by simp) (by simp) (by simp) s first
@[simp] theorem State.startCycle_lastCause (s : State) (first : List AdvanceHappening) : (s.startCycle first).lastCause = s.lastCause :=
  State.startCycle_unchanged (·.lastCause) (by simp) (by simp) (by simp) (by simp) s first
@[simp] theorem State.startCycle_pending (s : State) (first : List AdvanceHappening) : (s.startCycle first).pending = s.pending :=
  State.startCycle_unchanged (·.pending) (by simp) (by simp) (by simp) (by simp) s first

/-! ## The host's commands -/

/-- No command of the host touches the field side, the barrier, the Barrier Link Controller, the Command Engine or the commands waiting
while it runs. -/
theorem runCommand_frame (c : HostCommand) (s : State) :
    (runCommand c s).state.field = s.field ∧ (runCommand c s).state.barrier = s.barrier ∧
    (runCommand c s).state.blc = s.blc ∧ (runCommand c s).state.ce = s.ce ∧ (runCommand c s).state.held = s.held ∧
    (runCommand c s).state.lastCause = s.lastCause ∧ (runCommand c s).state.pending = s.pending := by
  cases c <;> simp only [runCommand, answers]
  case setOutputs => unfold runSetOutputs; split <;> simp [refuses, answers]
  case queueAction =>
    unfold runQueueAction
    split
    · simp [refuses]
    · split
      · simp [refuses]
      · split <;> simp [refuses, answers]
  case cancelAction => unfold runCancelAction; split <;> simp [refuses, answers]
  case configureChannel => unfold runConfigure; dsimp only; split <;> simp
  case clearFaults =>
    unfold runClearFaults
    dsimp only
    split
    · simp [answers]
    · split <;> simp
  case setFilter => simp [runSetFilter, answers]
  case readFilter => unfold runReadFilter; dsimp only; split <;> simp [answers]
  case readSnapshot => unfold runReadSnapshot; split <;> simp [refuses, answers]
  case setMode => simp [runSetMode, answers]
  all_goals simp

@[simp] theorem State.execute_blc (s : State) (x : Frame) : (s.execute x).blc = s.blc := by
  unfold State.execute
  split
  · simp
  · simp [runCommand_frame]
@[simp] theorem State.deal_blc (s : State) (x : Frame) : (s.deal x).blc = s.blc := by
  unfold State.deal
  dsimp only
  split <;> simp
@[simp] theorem State.takeCommand_blc (s : State) : s.takeCommand.blc = s.blc := by
  unfold State.takeCommand
  split <;> simp
@[simp] theorem State.execute_barrier (s : State) (x : Frame) : (s.execute x).barrier = s.barrier := by
  unfold State.execute
  split
  · simp
  · simp [runCommand_frame]
@[simp] theorem State.deal_barrier (s : State) (x : Frame) : (s.deal x).barrier = s.barrier := by
  unfold State.deal
  dsimp only
  split <;> simp
@[simp] theorem State.takeCommand_barrier (s : State) : s.takeCommand.barrier = s.barrier := by
  unfold State.takeCommand
  split <;> simp
@[simp] theorem State.execute_field (s : State) (x : Frame) : (s.execute x).field = s.field := by
  unfold State.execute
  split
  · simp
  · simp [runCommand_frame]
@[simp] theorem State.deal_field (s : State) (x : Frame) : (s.deal x).field = s.field := by
  unfold State.deal
  dsimp only
  split <;> simp
@[simp] theorem State.takeCommand_field (s : State) : s.takeCommand.field = s.field := by
  unfold State.takeCommand
  split <;> simp
@[simp] theorem State.execute_held (s : State) (x : Frame) : (s.execute x).held = s.held := by
  unfold State.execute
  split
  · simp
  · simp [runCommand_frame]
@[simp] theorem State.deal_held (s : State) (x : Frame) : (s.deal x).held = s.held := by
  unfold State.deal
  dsimp only
  split <;> simp
@[simp] theorem State.takeCommand_held (s : State) : s.takeCommand.held = s.held := by
  unfold State.takeCommand
  split <;> simp
@[simp] theorem State.execute_lastCause (s : State) (x : Frame) : (s.execute x).lastCause = s.lastCause := by
  unfold State.execute
  split
  · simp
  · simp [runCommand_frame]
@[simp] theorem State.deal_lastCause (s : State) (x : Frame) : (s.deal x).lastCause = s.lastCause := by
  unfold State.deal
  dsimp only
  split <;> simp
@[simp] theorem State.takeCommand_lastCause (s : State) : s.takeCommand.lastCause = s.lastCause := by
  unfold State.takeCommand
  split <;> simp
@[simp] theorem State.execute_pending (s : State) (x : Frame) : (s.execute x).pending = s.pending := by
  unfold State.execute
  split
  · simp
  · simp [runCommand_frame]
@[simp] theorem State.deal_pending (s : State) (x : Frame) : (s.deal x).pending = s.pending := by
  unfold State.deal
  dsimp only
  split <;> simp
@[simp] theorem State.takeCommand_pending (s : State) : s.takeCommand.pending = s.pending := by
  unfold State.takeCommand
  split <;> simp

end Sys2Proof.Machine
end

