-- ==== Sys2Proof/Laws/Table.lean ====
section
/-! SUPPORT. The small lemmas of `Table`, `PerKind` and channel sets: what each item is after each operation. -/

namespace Sys2Proof

/-- Two tables with the same items are the same table. -/
theorem Table.ext_get {n : Nat} {α : Type} {p q : Table n α} (h : ∀ i, p.get i = q.get i) : p = q := by
  cases p with
  | mk l hl =>
    cases q with
    | mk m hm =>
      have : l = m := by
        apply List.ext_getElem (by rw [hl, hm])
        intro i h1 _
        have hi : i < n := by rw [← hl]; exact h1
        simpa [Table.get] using h ⟨i, hi⟩
      subst this
      rfl

@[simp] theorem Table.get_ofFn {n : Nat} {α : Type} (f : Fin n → α) (i : Fin n) : (Table.ofFn f).get i = f i := by
  simp [Table.get, Table.ofFn]

@[simp] theorem Table.get_set_self {n : Nat} {α : Type} (p : Table n α) (i : Fin n) (a : α) : (p.set i a).get i = a := by
  simp [Table.get, Table.set]

@[simp] theorem Table.get_set_ne {n : Nat} {α : Type} (p : Table n α) {i j : Fin n} (a : α) (h : j ≠ i) :
    (p.set i a).get j = p.get j := by
  have : i.val ≠ j.val := fun e => h (Fin.ext e.symm)
  simp [Table.get, Table.set, this]

theorem Table.get_set {n : Nat} {α : Type} (p : Table n α) (i j : Fin n) (a : α) :
    (p.set i a).get j = if j = i then a else p.get j := by
  by_cases h : j = i
  · subst h; simp
  · simp [h]

/-- Writing back the item that stands there changes nothing. -/
@[simp] theorem Table.set_get {n : Nat} {α : Type} (p : Table n α) (i : Fin n) : p.set i (p.get i) = p := by
  apply Table.ext_get
  intro j
  rw [Table.get_set]
  split
  · rename_i h; rw [h]
  · rfl

/-- The later of two writes of one item stands. -/
@[simp] theorem Table.set_set {n : Nat} {α : Type} (p : Table n α) (i : Fin n) (a b : α) :
    (p.set i a).set i b = p.set i b := by
  apply Table.ext_get
  intro j
  rw [Table.get_set, Table.get_set, Table.get_set]
  split <;> rfl

@[simp] theorem Table.get_update_self {n : Nat} {α : Type} (p : Table n α) (i : Fin n) (f : α → α) :
    (p.update i f).get i = f (p.get i) := by
  simp [Table.update]

@[simp] theorem Table.get_update_ne {n : Nat} {α : Type} (p : Table n α) {i j : Fin n} (f : α → α) (h : j ≠ i) :
    (p.update i f).get j = p.get j := by
  simp [Table.update, h]

theorem Table.get_update {n : Nat} {α : Type} (p : Table n α) (i j : Fin n) (f : α → α) :
    (p.update i f).get j = if j = i then f (p.get i) else p.get j := by
  simp [Table.update, Table.get_set]

@[simp] theorem Table.get_mapIdx {n : Nat} {α β : Type} (p : Table n α) (f : Fin n → α → β) (i : Fin n) :
    (p.mapIdx f).get i = f i (p.get i) := by
  simp [Table.mapIdx]

@[simp] theorem Table.get_map {n : Nat} {α β : Type} (p : Table n α) (f : α → β) (i : Fin n) :
    (p.map f).get i = f (p.get i) := by
  simp [Table.map]

@[simp] theorem Table.get_all {n : Nat} {α : Type} (a : α) (i : Fin n) : (Table.all a : Table n α).get i = a := by
  simp [Table.all]

/-- An item of the table's list is an item of the table. -/
theorem Table.mem_toList {n : Nat} {α : Type} {p : Table n α} {a : α} : a ∈ p.toList ↔ ∃ i, p.get i = a := by
  constructor
  · intro h
    obtain ⟨k, hk, e⟩ := List.getElem_of_mem h
    exact ⟨⟨k, by rw [← p.size_eq]; exact hk⟩, e⟩
  · rintro ⟨i, rfl⟩
    exact List.getElem_mem _

/-- Bit `c` of the set gathered from a list of channels. -/
theorem has_gather (g : Chan → Bool) (l : List Chan) (c : Chan) :
    ChanSet.has (l.foldr (fun d acc => (if g d then BitVec.twoPow 12 d.val else 0) ||| acc) 0) c
      = l.any fun d => g d && decide (d = c) := by
  induction l with
  | nil => simp [ChanSet.has]
  | cons d l ih =>
    simp only [ChanSet.has] at ih
    simp only [List.foldr, ChanSet.has, BitVec.getLsbD_or, ih, List.any_cons]
    congr 1
    by_cases hg : g d
    · by_cases h : d = c
      · subst h; simp [hg]
      · have : c.val ≠ d.val := fun e => h (Fin.ext e.symm)
        simp [hg, h, this]
    · simp [hg]

/-- Every channel is in the list of all channels. -/
theorem mem_allChans : ∀ c : Chan, c ∈ allChans := by decide

/-- The channels whose item passes the test. -/
@[simp] theorem Table.has_members {α : Type} (p : PerChan α) (f : α → Bool) (c : Chan) :
    ChanSet.has (p.members f) c = f (p.get c) := by
  have h := has_gather (fun d => f (p.get d)) allChans c
  refine Eq.trans h ?_
  by_cases hf : f (p.get c)
  · rw [hf, List.any_eq_true]
    exact ⟨c, mem_allChans c, by simp [hf]⟩
  · have : f (p.get c) = false := by simpa using hf
    rw [this, List.any_eq_false]
    intro d _ hd
    simp only [Bool.and_eq_true, decide_eq_true_eq] at hd
    rw [hd.2] at hd
    simp [this] at hd

/-- Two channel sets with the same members are the same set. -/
theorem ChanSet.ext_has {a b : ChanSet} (h : ∀ c : Chan, ChanSet.has a c = ChanSet.has b c) : a = b := by
  apply BitVec.eq_of_getLsbD_eq
  intro i hi
  exact h ⟨i, hi⟩

@[simp] theorem ChanSet.has_zero (c : Chan) : ChanSet.has 0 c = false := by simp [ChanSet.has]

@[simp] theorem ChanSet.has_and (a b : ChanSet) (c : Chan) : ChanSet.has (a &&& b) c = (ChanSet.has a c && ChanSet.has b c) := by
  simp [ChanSet.has]

@[simp] theorem ChanSet.has_or (a b : ChanSet) (c : Chan) : ChanSet.has (a ||| b) c = (ChanSet.has a c || ChanSet.has b c) := by
  simp [ChanSet.has]

@[simp] theorem ChanSet.has_not (a : ChanSet) (c : Chan) : ChanSet.has (~~~a) c = !ChanSet.has a c := by
  simp [ChanSet.has]

@[simp] theorem ChanSet.has_twoPow (d c : Chan) : ChanSet.has (BitVec.twoPow 12 d.val) c = decide (c = d) := by
  by_cases h : c = d
  · subst h; simp [ChanSet.has]
  · have : c.val ≠ d.val := fun e => h (Fin.ext e)
    simp [ChanSet.has, h, this]

@[simp] theorem PerKind.get_ofFn {α : Type} (f : FaultKind → α) (k : FaultKind) : (PerKind.ofFn f).get k = f k := by
  cases k <;> rfl

@[simp] theorem PerKind.get_all {α : Type} (a : α) (k : FaultKind) : (PerKind.all a).get k = a := by
  cases k <;> rfl

theorem PerKind.ext_get {α : Type} {p q : PerKind α} (h : ∀ k, p.get k = q.get k) : p = q := by
  cases p; cases q
  have h1 := h .overcurrent; have h2 := h .overtemp; have h3 := h .openOn; have h4 := h .openOff; have h5 := h .shortSupply
  simp only [PerKind.get] at h1 h2 h3 h4 h5
  subst h1; subst h2; subst h3; subst h4; subst h5
  rfl

end Sys2Proof
end

