-- ==== Sys2Proof/Laws/Ops.lean ====
section
/-! SUPPORT. For each shared operation, once, everything it can do: what a proof cites in place of unfolding it. -/

namespace Sys2Proof.Machine

open Sys2Proof

/-! ## Taking a happening -/

/-- A happening answers the state with its effect, or the state as it was. -/
theorem happening_next {enabled : Bool} {effect : State → State} {s t : State} (h : happening enabled effect s = .next t) :
    (enabled = true ∧ t = effect s) ∨ (enabled = false ∧ t = s) := by
  unfold happening at h
  cases enabled
  · exact .inr ⟨rfl, by simpa using (Host.Outcome.next.inj h).symm⟩
  · exact .inl ⟨rfl, by simpa using (Host.Outcome.next.inj h).symm⟩

/-- A happening of the logic side has its effect only while the logic side runs. -/
theorem logicHappening_next {enabled : Bool} {effect : State → State} {s t : State}
    (h : logicHappening enabled effect s = .next t) :
    (s.runs = true ∧ enabled = true ∧ t = effect s) ∨ ((s.runs && enabled) = false ∧ t = s) := by
  rcases happening_next h with ⟨he, ht⟩ | ⟨he, ht⟩
  · rw [Bool.and_eq_true] at he
    exact .inl ⟨he.1, he.2, ht⟩
  · exact .inr ⟨he, ht⟩

@[simp] theorem happening_true (effect : State → State) (s : State) : happening true effect s = .next (effect s) := rfl

@[simp] theorem happening_false (effect : State → State) (s : State) : happening false effect s = .next s := rfl

theorem logicHappening_of {enabled : Bool} (effect : State → State) {s : State} (hr : s.runs = true) (he : enabled = true) :
    logicHappening enabled effect s = .next (effect s) := by
  simp [logicHappening, hr, he]

theorem logicHappening_held {enabled : Bool} (effect : State → State) {s : State} (hr : s.runs = false) :
    logicHappening enabled effect s = .next s := by
  simp [logicHappening, hr]

/-- A happening that can place a response has its effect, noted with the tie it makes, only while the logic side runs. -/
theorem placingHappening_next {enabled : Bool} {effect : State → State} {s t : State}
    (h : placingHappening enabled effect s = .next t) :
    (s.runs = true ∧ enabled = true ∧ t = (effect s).tiedFrom s) ∨ ((s.runs && enabled) = false ∧ t = s) :=
  logicHappening_next h

theorem placingHappening_of {enabled : Bool} (effect : State → State) {s : State} (hr : s.runs = true) (he : enabled = true) :
    placingHappening enabled effect s = .next ((effect s).tiedFrom s) :=
  logicHappening_of _ hr he

theorem placingHappening_held {enabled : Bool} (effect : State → State) {s : State} (hr : s.runs = false) :
    placingHappening enabled effect s = .next s :=
  logicHappening_held _ hr

/-- A happening that leaves the number of records on offer as it was makes no tie (R169). -/
theorem State.tiedFrom_of_offered {s t : State} (h : t.ru.offered = s.ru.offered) : t.tiedFrom s = t := by
  have hf : tieBetween s t = false := by
    unfold tieBetween State.txdFree
    rw [h]
    by_cases h0 : s.ru.offered = 0 <;> simp [h0]
  simp [State.tiedFrom, hf]

/-- A happening that leaves the Report Unit as it was makes no tie (R169). -/
theorem State.tiedFrom_of_ru {s t : State} (h : t.ru = s.ru) : t.tiedFrom s = t := State.tiedFrom_of_offered (by rw [h])

/-- A happening that leaves no response waiting makes no tie (R169). -/
theorem State.tiedFrom_of_responses {s t : State} (h : t.hlk.responses = []) : t.tiedFrom s = t := by
  have hf : tieBetween s t = false := by simp [tieBetween, h]
  simp [State.tiedFrom, hf]

/-- With TXD busy a happening makes no tie (R169). -/
theorem State.tiedFrom_of_busy {s t : State} (h : s.hlk.txd ≠ .idle) : t.tiedFrom s = t := by
  simp [State.tiedFrom, tieBetween, State.txdFree, State.txIdle, h]

/-- A happening of the field side changes the field side alone. -/
theorem fieldHappening_next {effect : FieldSide → FieldSide} {s t : State} (h : fieldHappening effect s = .next t) :
    t = { s with field := s.field.map effect } := (Host.Outcome.next.inj h).symm

theorem fieldHappening_running (effect : FieldSide → FieldSide) {s : State} {f : FieldSide} (h : s.field = some f) :
    fieldHappening effect s = .next { s with field := some (effect f) } := by
  simp [fieldHappening, h]

theorem fieldHappening_stopped (effect : FieldSide → FieldSide) {s : State} (h : s.field = none) :
    fieldHappening effect s = .next s := by
  cases s
  cases h
  rfl

/-- A happening at a supervisor changes that supervisor alone. -/
theorem supervise_eq (f : FieldSide) (c : Chan) (g : Supervisor → Supervisor) :
    f.supervise c g =
      { f with
        channels := f.channels.set c
          { f.channels.get c with supervisor := g (f.channels.get c).supervisor } } := rfl

@[simp] theorem supervise_self (f : FieldSide) (c : Chan) (g : Supervisor → Supervisor) :
    (f.supervise c g).channels.get c = { f.channels.get c with supervisor := g (f.channels.get c).supervisor } := by
  simp [FieldSide.supervise]

@[simp] theorem supervise_other (f : FieldSide) {c d : Chan} (g : Supervisor → Supervisor) (h : d ≠ c) :
    (f.supervise c g).channels.get d = f.channels.get d := by
  simp [FieldSide.supervise, h]

theorem supervise_only (f : FieldSide) (c : Chan) (g : Supervisor → Supervisor) : OnlySupervisor c f (f.supervise c g) :=
  ⟨⟨rfl, fun _ h => supervise_other f g h⟩, by rw [supervise_self]⟩

/-! ## The effective demand -/

@[simp] theorem FieldChannel.take_effective (ch : FieldChannel) (v : Bool) : (ch.take v).effective = v := by
  unfold FieldChannel.take
  split
  · assumption
  · rfl

@[simp] theorem FieldChannel.take_hold (ch : FieldChannel) (v : Bool) : (ch.take v).hold = ch.hold := by
  unfold FieldChannel.take; split <;> rfl

@[simp] theorem FieldChannel.take_token (ch : FieldChannel) (v : Bool) : (ch.take v).token = ch.token := by
  unfold FieldChannel.take; split <;> rfl

@[simp] theorem FieldChannel.take_applied (ch : FieldChannel) (v : Bool) : (ch.take v).applied = ch.applied := by
  unfold FieldChannel.take; split <;> rfl

/-- A value formed again without change hands the supervisor nothing; a change is handed to it whole (R50). -/
theorem FieldChannel.take_supervisor (ch : FieldChannel) (v : Bool) :
    (ch.take v).supervisor =
      if ch.effective = v then ch.supervisor
      else if v then ch.supervisor.demandOn else ch.supervisor.demandOff := by
  unfold FieldChannel.take; split <;> rfl

@[simp] theorem FieldSide.formDemand_get (f : FieldSide) (c : Chan) :
    f.formDemand.channels.get c = (f.channels.get c).take (formedDemand f c) := by
  simp [FieldSide.formDemand]

/-- Forming the demand changes no item of the field side but the channels. -/
theorem FieldSide.formDemand_rest (f : FieldSide) : { f.formDemand with channels := f.channels } = f := rfl

/-! ## The Report Unit -/

/-- An event is enqueued in a free place, and lost otherwise (R136). -/
theorem ReportUnit.enqueue_cases (u : ReportUnit) (now : PartTime) (e : Event) :
    (u.queue.length < reportCapacity ∧ u.enqueue now e = u.append now e) ∨
      (reportCapacity ≤ u.queue.length ∧ u.enqueue now e = u.lose) := by
  unfold ReportUnit.enqueue
  split
  · exact .inl ⟨‹_›, rfl⟩
  · exact .inr ⟨Nat.le_of_not_lt ‹_›, rfl⟩

/-- A loss merges into the newest record or adds one to the pending loss (R137). -/
theorem ReportUnit.lose_cases (u : ReportUnit) :
    (∃ r, u.queue.getLast? = some r ∧ r.mergeable = true ∧ u.lose = { u with queue := mergeLoss u.queue }) ∨
      ((∀ r, u.queue.getLast? = some r → r.mergeable = false) ∧ u.lose = { u with loss := u.loss + 1 }) := by
  unfold ReportUnit.lose
  split
  · rename_i r h
    cases hm : r.mergeable
    · refine .inr ⟨fun r' h' => ?_, rfl⟩
      rw [h] at h'
      cases h'
      exact hm
    · exact .inl ⟨r, h, hm, rfl⟩
  · rename_i h
    exact .inr ⟨fun r' h' => (by rw [h] at h'; cases h'), rfl⟩

/-- An event taken is enqueued, counted by the first filter entry that matches it, or dropped (R127, R129). -/
theorem ReportUnit.take_cases (u : ReportUnit) (now : PartTime) (e : Event) :
    u.take now e = u.enqueue now e ∨
      ((∃ i, firstMatch u.filter e = some i ∧ (u.filter.get i).action = .count ∧
          u.take now e = { u with filter := u.filter.update i FilterEntry.counted }) ∨
        (∃ i, firstMatch u.filter e = some i ∧ (u.filter.get i).action = .drop ∧ u.take now e = u)) ∧ e.mandatory = false := by
  unfold ReportUnit.take
  cases hm : e.mandatory
  · simp only [Bool.false_eq_true, if_false]
    split
    · exact .inl rfl
    · rename_i i hi
      split
      · exact .inl rfl
      · exact .inr ⟨.inl ⟨i, hi, ‹_›, rfl⟩, trivial⟩
      · exact .inr ⟨.inr ⟨i, hi, ‹_›, rfl⟩, trivial⟩
  · exact .inl rfl

theorem ReportUnit.takeAll_cons (u : ReportUnit) (now : PartTime) (e : Event) (es : List Event) :
    u.takeAll now (e :: es) = (u.take now e).takeAll now es := rfl

@[simp] theorem ReportUnit.takeAll_nil (u : ReportUnit) (now : PartTime) : u.takeAll now [] = u := rfl

/-- What holds of a Report Unit and is kept by taking one event is kept by taking the events of a happening. -/
theorem ReportUnit.takeAll_keeps {P : ReportUnit → Prop} (now : PartTime)
    (h : ∀ (u : ReportUnit) (e : Event), P u → P (u.take now e)) (es : List Event) (u : ReportUnit) (hu : P u) :
    P (u.takeAll now es) := by
  induction es generalizing u with
  | nil => exact hu
  | cons e es ih => exact ih _ (h u e hu)

/-! ## The Action Queue -/

/-- Applying an entry changes demand, the queue and the Report Unit alone. -/
theorem State.applyAction_only (s : State) (a : Action) :
    { s.applyAction a with ct := s.ct, aq := s.aq, ru := s.ru } = s := rfl

/-- An entry joins the queue beside the entries that are there. -/
theorem mem_insertAction (now : PartTime) (a x : Action) (q : List Action) : x ∈ insertAction now a q ↔ x = a ∨ x ∈ q := by
  induction q with
  | nil => simp [insertAction]
  | cons b q ih =>
    unfold insertAction
    split
    · simp
    · simp only [List.mem_cons, ih]
      constructor
      · rintro (h | h | h)
        · exact .inr (.inl h)
        · exact .inl h
        · exact .inr (.inr h)
      · rintro (h | h | h)
        · exact .inr (.inl h)
        · exact .inl h
        · exact .inr (.inr h)

@[simp] theorem length_insertAction (now : PartTime) (a : Action) (q : List Action) :
    (insertAction now a q).length = q.length + 1 := by
  induction q with
  | nil => rfl
  | cons b q ih =>
    unfold insertAction
    split
    · rfl
    · simp [ih]

@[simp] theorem mem_removeTag (q : List Action) (tag : Byte) (x : Action) : x ∈ removeTag q tag ↔ x ∈ q ∧ x.tag ≠ tag := by
  simp [removeTag]

/-! ## The temperature flag -/

/-- The flag is HOT from 160 °C on, COOL below 145 °C, and between the two it keeps its value (R3). -/
theorem flagAt_eq (hot : Bool) (junction : Int) :
    flagAt hot junction = if 160000 ≤ junction then true else if junction < 145000 then false else hot := by
  unfold flagAt reachesHot fallsCool
  by_cases h : 160000 ≤ junction
  · simp [h]
  · by_cases h' : junction < 145000 <;> simp [h, h']

/-- A HOT flag, and a COOL one below 160 °C, does not become HOT (R3). -/
theorem becomesHot_eq_self {v : Supervisor} {junction : Int} (h : v.hot = true ∨ junction < 160000) : v.becomesHot junction = v := by
  unfold Supervisor.becomesHot
  rw [if_neg]
  rcases h with h | h
  · simp [h]
  · simp only [flagAt_eq, if_neg (Int.not_le.mpr h)]
    cases v.hot <;> simp

/-- A COOL flag, and a HOT one from 145 °C on, does not become COOL (R3). -/
theorem becomesCool_eq_self {v : Supervisor} {junction : Int} (h : v.hot = false ∨ 145000 ≤ junction) :
    v.becomesCool junction = v := by
  unfold Supervisor.becomesCool
  rw [if_neg]
  rcases h with h | h
  · simp [h]
  · simp only [flagAt_eq, if_neg (Int.not_lt.mpr h)]
    cases v.hot <;> simp

/-! ## The receiver -/

/-- A character is received unless it has no start bit or a break goes on (R157). -/
theorem HostLink.receives_eq_none (h : HostLink) (l : RxLine) :
    h.receives l = none ↔ l.levels.getLsbD 0 = true ∨ (h.broken = true ∧ l.wasHigh = false) := by
  unfold HostLink.receives receivedChar
  cases h.broken <;> cases l.wasHigh <;> cases l.levels.getLsbD 0 <;> simp

theorem State.hears_eq_none (s : State) (l : RxLine) : s.hears l = none ↔ s.hlk.receives l = none := by
  simp [State.hears]

theorem State.hears_of {s : State} {l : RxLine} {ch : RxChar} (h : s.hlk.receives l = some ch) :
    s.hears l = some (s.hlk.rx.take ch, s.noteChar ch) := by
  simp [State.hears, h]

/-- A byte that is sent is received as that byte, without a stop-bit error (R157). -/
theorem receivedChar_characterLevels (b : Byte) (high : Bool) : receivedChar ⟨high, characterLevels b⟩ = some ⟨b, false⟩ := by
  revert b
  cases high <;> decide +kernel

/-! ## The Command Engine -/

/-- A frame is answered from the cache or executed (R165). -/
theorem State.deal_cases (s : State) (f : Frame) :
    (∃ r, s.endSilenceIfAny.ce.cached f = some r ∧ s.deal f = s.endSilenceIfAny.place ⟨r, false⟩) ∨
      (s.endSilenceIfAny.ce.cached f = none ∧ s.deal f = s.endSilenceIfAny.execute f) := by
  unfold State.deal
  dsimp only
  split
  · exact .inl ⟨_, ‹_›, rfl⟩
  · exact .inr ⟨‹_›, rfl⟩

/-- A row that names a command has an effect only when that command's frame is taken (R164). -/
theorem hostCommand_next {f : Frame} {s t : State} (h : hostCommand f s = .next t) :
    (s.runs = true ∧ s.ce.engine = .idle ∧ s.hlk.responses.length < 4 ∧ s.hlk.inbound.head? = some f ∧
      t = (s.dropHead.deal f).tiedFrom s) ∨ t = s := by
  rcases placingHappening_next h with ⟨hr, hm, ht⟩ | ⟨-, ht⟩
  · simp only [State.mayTake, State.engineReady, Bool.and_eq_true, decide_eq_true_eq] at hm
    exact .inl ⟨hr, hm.1.1, hm.1.2, hm.2, ht⟩
  · exact .inr ht

end Sys2Proof.Machine
end

