-- ==== Sys2Proof/WellFormed.lean ====
section
/-! DEFINITION. Which command terms stand for a happening at all. A host frame's fields are not checked here: the part itself
refuses a field out of range with BAD_VALUE (R177), so every value is a command. What is checked is what a happening's own
name says of the supply (R45, R46), that an advance of part time lists no happening twice, and that a character begins with its
start bit (R157). -/

namespace Sys2Proof

/-- VF, in millivolts, is at a level at which a running field die goes on running (R46). -/
def vfRuns (vf : Nat) : Bool := decide (8000 ≤ vf)

/-- VF, in millivolts, is below the level at which the field die stops (R46). -/
def vfStops (vf : Nat) : Bool := decide (vf < 8000)

/-- VF, in millivolts, is above the level at which a stopped field die starts (R46). -/
def vfStarts (vf : Nat) : Bool := decide (9000 < vf)

/-- The character begins with its start bit, low (R157). -/
def startsLow (line : RxLine) : Bool := !line.levels.getLsbD 0

/-- The term stands for a happening: VF lies where the happening's name puts it, no happening of an advance is listed twice, and a
character has its start bit. -/
def Instr.wellFormed : Instr → Bool
  | .barrierCycleStart first => decide first.Nodup
  | .vfCandidateChange vf => vfRuns vf
  | .fieldDieStop vf => vfStops vf
  | .fieldResetSupply sense => vfStarts sense.vf
  | .driveFrameTaken sense => vfRuns sense.vf
  | .ackFrameReceived line => startsLow line
  | .commandFrameReceived line => startsLow line
  | .rxFrameDiscard line => startsLow line
  | .characterReceived line => startsLow line
  | _ => true

end Sys2Proof
end

