-- ==== Sys2Proof/Tests/Slice0.lean ====
section
/-! SUPPORT. The model's own tests. `test_` theorems run one command on a small state, with the values that the manual's tables and
examples give (the table is named at each); `witness_` theorems show, for each statement with hypotheses, a concrete state and
operands that meet them, clause by clause. -/

namespace Sys2Proof.Tests

set_option Elab.async false

open Sys2Proof Sys2Proof.Machine

/-! ## Well-formedness -/

/-- An advance that lists a happening twice is refused. -/
theorem test_wf_barrierCycleStart :
    (Instr.barrierCycleStart [.silenceTimeout, .atTimeEntriesDue]).wellFormed = true ∧
      (Instr.barrierCycleStart [.silenceTimeout, .atTimeEntriesDue, .silenceTimeout]).wellFormed = false := by decide

/-- VF below 8.0 V is no candidate change of a running field die (R45, R46). -/
theorem test_wf_vfCandidateChange :
    (Instr.vfCandidateChange 8000).wellFormed = true ∧ (Instr.vfCandidateChange 7999).wellFormed = false := by decide

/-- VF of 8.0 V does not stop the field die (R46). -/
theorem test_wf_fieldDieStop :
    (Instr.fieldDieStop 7999).wellFormed = true ∧ (Instr.fieldDieStop 8000).wellFormed = false := by decide

/-- VF of 9.0 V does not start the field die (R46). -/
theorem test_wf_fieldResetSupply :
    (Instr.fieldResetSupply { FieldSense.nominal with vf := 9001 }).wellFormed = true ∧
      (Instr.fieldResetSupply { FieldSense.nominal with vf := 9000 }).wellFormed = false := by decide

/-- A drive frame arrives at a field die whose VF is at 8.0 V or above (R46). -/
theorem test_wf_driveFrameTaken :
    (Instr.driveFrameTaken { FieldSense.nominal with vf := 8000 }).wellFormed = true ∧
      (Instr.driveFrameTaken { FieldSense.nominal with vf := 7999 }).wellFormed = false := by decide

/-- A character begins with a low level, its start bit (R157): bit 0 of 247h is high. -/
theorem test_wf_startsLow :
    (Instr.characterReceived ⟨true, 0x246⟩).wellFormed = true ∧ (Instr.characterReceived ⟨true, 0x247⟩).wellFormed = false ∧
      (Instr.rxFrameDiscard ⟨true, 0x247⟩).wellFormed = false ∧ (Instr.ackFrameReceived ⟨true, 0x247⟩).wellFormed = false ∧
      (Instr.commandFrameReceived ⟨true, 0x247⟩).wellFormed = false := by decide

/-- The table gives its rows no bits: no word spells a command, and none is put in front. -/
theorem test_no_word_spells_a_command :
    decodeTableWord 8 0 = none ∧ decodeTableWord 32 0xC3 = none ∧
      (State.reset.withFetchWord 8 0).pending = [] := by decide

/-! ## Small states -/

/-- The state after a command. -/
def after (c : Instr) (s : State) : State :=
  match exec c s with
  | .next t => t
  | .fault _ => s
  | .refused _ => s

/-- The field side of `State.reset`. -/
def field0 : FieldSide := FieldSide.reset .supply 0 FieldSense.nominal

/-- The field side of `State.reset` with channel 0 as given. -/
def fieldWith (ch : FieldChannel) : FieldSide := { field0 with channels := field0.channels.set 0 ch }

/-- The channel 0 of `State.reset`. -/
def channel0 : FieldChannel := FieldChannel.reset 25000

/-- The part with the supervisor of channel 0 as given. -/
def withSup (v : Supervisor) : State :=
  { State.reset with field := some (fieldWith { channel0 with supervisor := v }) }

/-- The supervisor of channel 0 after a command on it. -/
def supAfter (c : Instr) (v : Supervisor) : Option Supervisor :=
  (after c (withSup v)).field.map fun f => (f.channels.get 0).supervisor

/-- Some channel of some running field side has a supervisor with the property. -/
def Seen (P : Supervisor → Prop) : Prop :=
  ∃ (s : State) (f : FieldSide) (c : Chan) (v : Supervisor), s.field = some f ∧ (f.channels.get c).supervisor = v ∧ P v

theorem seen {P : Supervisor → Prop} (v : Supervisor) (h : P v) : Seen P :=
  ⟨withSup v, fieldWith { channel0 with supervisor := v }, 0, v, rfl, rfl, h⟩

/-- The record of TABLE 16: MID, 30 ms, 100 ms, budget 2, OPEN_ON enabled at 10 mA. -/
def record16 : ConfigRecord := ⟨.mid, 3, 10, 2, .ma10, .ms6, true, false, true, .off, 10⟩

/-- A supervisor in OFF under the record of TABLE 16. -/
def off16 : Supervisor := { Supervisor.reset 25000 with record := record16 }

/-- In STARTING, the inrush timer running. -/
def starting16 : Supervisor := { off16 with protection := .starting, inrush := some 3, blanking := .stopped }

/-- In ON, the settle timer running. -/
def on16 : Supervisor := { off16 with protection := .on, settleTimer := true, blanking := .stopped }

/-- In LIMITING, the limit timer running. -/
def limiting16 : Supervisor :=
  { off16 with protection := .limiting, inRegulation := true, limitTimer := true, blanking := .stopped }

/-- In COOLDOWN after one trip. -/
def cooldown16 : Supervisor :=
  { off16 with protection := .cooldown, retry := 1, cooldown := .running 10, counters := ⟨1, 0, 0, 0, 0⟩ }

/-- In LOCKED after three trips. -/
def locked16 : Supervisor := { off16 with protection := .locked, retry := 2, counters := ⟨3, 0, 0, 0, 0⟩ }

/-! ## The Channel Supervisors: TABLE 16, row by row -/

/-- At 0.3 ms the current reaches 2.0 A in STARTING and the limit timer starts; 1 µA less does nothing. -/
theorem test_regulationBegins_starting :
    supAfter (.regulationBegins 0 2000000) starting16 = some { starting16 with inRegulation := true, limitTimer := true } ∧
      supAfter (.regulationBegins 0 1999999) starting16 = some starting16 := by decide +kernel

/-- At 400 ms the current reaches 1.0 A in ON: LIMITING, settle timer stopped, limit timer started; 1 µA less does nothing. -/
theorem test_regulationBegins_on : supAfter (.regulationBegins 0 1000000) on16 = some limiting16 ∧
    supAfter (.regulationBegins 0 999999) on16 = some on16 := by decide +kernel

/-- At 1.5 ms the current falls below 1.8 A: regulation ends and the limit timer stops; at 1.8 A it does not. -/
theorem test_regulationEnds_starting :
    supAfter (.regulationEnds 0 1799999) { starting16 with inRegulation := true, limitTimer := true } = some starting16 ∧
      (supAfter (.regulationEnds 0 1800000) { starting16 with inRegulation := true, limitTimer := true }).map
        (·.limitTimer) = some true := by decide +kernel

/-- In LIMITING the current falls below 0.9 A: ON, with the settle timer started again (R8); at 0.9 A it does not. -/
theorem test_regulationEnds_limiting : supAfter (.regulationEnds 0 899999) limiting16 = some on16 ∧
    supAfter (.regulationEnds 0 900000) limiting16 = some limiting16 := by decide +kernel

/-- At 30 ms the inrush timer runs out at 0.6 A: ON, the settle timer started; at 1.0 A it is LIMITING (R5). -/
theorem test_inrushTimerExpiry :
    supAfter (.inrushTimerExpiry 0 600000) starting16 = some on16 ∧
      supAfter (.inrushTimerExpiry 0 1000000) starting16 = some limiting16 := by decide +kernel

/-- At 402 ms the limit timer reaches 2 ms: COOLDOWN, retry count 1, OVERCURRENT counter 1, off-blanking started. -/
theorem test_limitTimerExpiry_cooldown :
    supAfter (.limitTimerExpiry 0) limiting16 = some { cooldown16 with blanking := .running } := by decide +kernel

/-- The third trip, with the retry count at the budget of 2: LOCKED, retry count 2, OVERCURRENT counter 3. -/
theorem test_limitTimerExpiry_locked :
    supAfter (.limitTimerExpiry 0) { limiting16 with retry := 2, counters := ⟨2, 0, 0, 0, 0⟩ } = some locked16 := by
  decide +kernel

/-- At 632 ms the settle timer reaches 100 ms: the retry count becomes 0 and the channel stays in ON. -/
theorem test_settleTimerExpiry :
    supAfter (.settleTimerExpiry 0) { on16 with retry := 1 } = some { on16 with settleTimer := false } := by decide +kernel

/-- A flag that becomes HOT trips a closed channel with cause OVERTEMP (R9), and the counter of that cause wraps from 15 (R16); the flag
becomes HOT at 160 °C and not below (R3). -/
theorem test_junctionHot :
    (supAfter (.junctionHot ⟨0, 160000⟩) { on16 with counters := ⟨4, 15, 0, 0, 0⟩ }).map
        (fun v => (v.protection, v.retry, v.hot, v.counters)) =
      some (.cooldown, 1, true, ⟨4, 0, 0, 0, 0⟩) ∧ supAfter (.junctionHot ⟨0, 159999⟩) on16 = some on16 := by decide +kernel

/-- An elapsed cooldown makes its attempt when the flag becomes COOL (R12), and without one nothing but the flag changes; the
flag becomes COOL below 145 °C and not at it (R3). -/
theorem test_junctionCool :
    (supAfter (.junctionCool ⟨0, 144999⟩) { cooldown16 with cooldown := .elapsed, hot := true }).map
        (fun v => (v.protection, v.retry, v.inrush)) = some (.starting, 1, some 3) ∧
      supAfter (.junctionCool ⟨0, 144999⟩) { cooldown16 with hot := true } = some cooldown16 ∧
      supAfter (.junctionCool ⟨0, 145000⟩) { cooldown16 with hot := true } = some { cooldown16 with hot := true } := by decide +kernel

/-- At 502 ms the cooldown elapses with the flag COOL: STARTING with the retry count at 1; HOT, the attempt waits (R12). -/
theorem test_cooldownTimerExpiry :
    supAfter (.cooldownTimerExpiry 0) cooldown16 = some { starting16 with retry := 1, counters := ⟨1, 0, 0, 0, 0⟩ } ∧
      supAfter (.cooldownTimerExpiry 0) { cooldown16 with hot := true } =
        some { cooldown16 with hot := true, cooldown := .elapsed } := by decide +kernel

/-- In ON below 10 mA the qualification timer of 6 ms starts; at 10 mA it stops (R18). -/
theorem test_openThresholdCrossing :
    supAfter (.openThresholdCrossing 0 9999) on16 = some { on16 with openOnTimer := some .ms6 } ∧
      supAfter (.openThresholdCrossing 0 10000) { on16 with openOnTimer := some .ms6 } = some on16 := by decide +kernel

/-- The qualification is the occurrence: the condition is present and the counter is 1 (R16, R18). -/
theorem test_openOnQualificationExpiry :
    supAfter (.openOnQualificationExpiry 0) { on16 with openOnTimer := some .ms6 } =
      some { on16 with openOn := true, counters := ⟨0, 0, 1, 0, 0⟩ } := by decide +kernel

/-- The OPEN_ON condition ends above 12.5 mA, 125 % of 10 mA, and not at it (R19). -/
theorem test_openOnCurrentRecovery :
    supAfter (.openOnCurrentRecovery 0 12501) { on16 with openOn := true } = some on16 ∧
      supAfter (.openOnCurrentRecovery 0 12500) { on16 with openOn := true } = some { on16 with openOn := true } := by
  decide +kernel

/-- A channel in LOCKED whose off-state detectors run out of DROPOUT. -/
def lockedSensed : Supervisor :=
  { locked16 with record := { record16 with openOffEnable := true }, blanking := .elapsed }

/-- The part out of DROPOUT, with the supervisor of channel 0 as given. -/
def withSupNormal (v : Supervisor) : State :=
  { State.reset with
    field := some { fieldWith { channel0 with supervisor := v } with band := .normal, candidate := .normal, filterTimer := false } }

/-- The supervisor of channel 0 after a command on it, in band NORMAL. -/
def supAfterNormal (c : Instr) (v : Supervisor) : Option Supervisor :=
  (after c (withSupNormal v)).field.map fun f => (f.channels.get 0).supervisor

/-- The windows of R22 and R23 at their ends: 4.5 V and 11 V lie in the OPEN_OFF window, and SHORT_SUPPLY begins above 11 V. -/
theorem test_outputVoltageWindowChange :
    ([4499, 4500, 11000, 11001].map fun mv => (supAfterNormal (.outputVoltageWindowChange 0 mv) lockedSensed).map
        fun v => (v.openOff.qualifying, v.shortSupply.qualifying)) =
      [some (false, false), some (true, false), some (true, false), some (false, true)] := by decide +kernel

/-- The off-blanking timer elapses at 7 V: the OPEN_OFF qualification starts at that moment; in DROPOUT it does not (R20, R24). -/
theorem test_offBlankingExpiry :
    (supAfterNormal (.offBlankingExpiry 0 7000) { lockedSensed with blanking := .running }).map
        (fun v => (v.blanking, v.openOff.qualifying)) = some (.elapsed, true) ∧
      (supAfter (.offBlankingExpiry 0 7000) { lockedSensed with blanking := .running }).map
        (fun v => (v.blanking, v.openOff.qualifying)) = some (.elapsed, false) := by decide +kernel

/-- 6 ms in the window: OPEN_OFF is present and its counter is 1 (R22). -/
theorem test_openOffQualificationExpiry :
    (supAfterNormal (.openOffQualificationExpiry 0) { lockedSensed with openOff := ⟨true, false, false⟩ }).map
      (fun v => (v.openOff, v.counters)) = some (⟨false, false, true⟩, ⟨3, 0, 0, 1, 0⟩) := by decide +kernel

/-- 6 ms outside the window: OPEN_OFF is absent and no counter changes (R22). -/
theorem test_openOffClearingExpiry :
    (supAfterNormal (.openOffClearingExpiry 0) { lockedSensed with openOff := ⟨false, true, true⟩ }).map
      (fun v => (v.openOff, v.counters)) = some (⟨false, false, false⟩, ⟨3, 0, 0, 0, 0⟩) := by decide +kernel

/-- 6 ms above 11 V: SHORT_SUPPLY is present and its counter is 1 (R23). -/
theorem test_shortSupplyQualificationExpiry :
    (supAfterNormal (.shortSupplyQualificationExpiry 0) { lockedSensed with shortSupply := ⟨true, false, false⟩ }).map
      (fun v => (v.shortSupply, v.counters)) = some (⟨false, false, true⟩, ⟨3, 0, 0, 0, 1⟩) := by decide +kernel

/-- 6 ms at or below 11 V: SHORT_SUPPLY is absent (R23). -/
theorem test_shortSupplyClearingExpiry :
    (supAfterNormal (.shortSupplyClearingExpiry 0) { lockedSensed with shortSupply := ⟨false, true, true⟩ }).map
      (fun v => (v.shortSupply, v.counters)) = some (⟨false, false, false⟩, ⟨3, 0, 0, 0, 0⟩) := by decide +kernel

/-- A start on a HOT flag trips at once without closing the switch, and with a budget of 0 it locks (R4, TABLE 45 step 2). -/
theorem test_start_on_hot_locks :
    ({ off16 with record := { record16 with retryBudget := 0 }, hot := true, blanking := .elapsed } : Supervisor).demandOn =
      { off16 with
        record := { record16 with retryBudget := 0 }
        hot := true, blanking := .elapsed, protection := .locked, counters := ⟨0, 1, 0, 0, 0⟩ } := by decide +kernel

/-! ### Witnesses: the Channel Supervisors -/

theorem witness_Regulation_1 : Seen fun v => v.protection = .starting ∧ v.inRegulation = false ∧
    2 * v.record.limitClass.limit ≤ 2000000 ∧ 1999999 < 2 * v.record.limitClass.limit := seen starting16 (by decide)
theorem witness_Regulation_2 : Seen fun v => v.protection = .on ∧ v.inRegulation = false ∧
    v.record.limitClass.limit ≤ 1000000 ∧ 999999 < v.record.limitClass.limit := seen on16 (by decide)
theorem witness_Regulation_3 : (Seen fun v => v.protection.closed = false) ∧ Seen fun v => v.inRegulation = true :=
  ⟨seen off16 (by decide), seen limiting16 (by decide)⟩
theorem witness_Regulation_4 : Seen fun v => v.protection = .starting ∧ v.inRegulation = true ∧
    10 * 1799999 < 18 * v.record.limitClass.limit :=
  seen { starting16 with inRegulation := true, limitTimer := true } (by decide)
theorem witness_Regulation_5 : Seen fun v => v.protection = .limiting ∧ v.inRegulation = true ∧
    10 * 899999 < 9 * v.record.limitClass.limit ∧ 9 * v.record.limitClass.limit ≤ 10 * 900000 := seen limiting16 (by decide)
theorem witness_Regulation_6 : (Seen fun v => v.protection.closed = false) ∧ (Seen fun v => v.inRegulation = false) ∧
    Seen fun v => 18 * v.record.limitClass.limit ≤ 10 * 1800000 :=
  ⟨seen off16 (by decide), seen on16 (by decide), seen limiting16 (by decide)⟩

theorem witness_InrushAndSettleExpiry_1 : Seen fun v => v.protection = .starting ∧ v.inrush = some 3 :=
  seen starting16 (by decide)
theorem witness_InrushAndSettleExpiry_2 : Seen fun v => v.inrush = none := seen on16 (by decide)
theorem witness_InrushAndSettleExpiry_3 : (Seen fun v => v.settleTimer = true) ∧ Seen fun v => v.settleTimer = false :=
  ⟨seen on16 (by decide), seen off16 (by decide)⟩

/-- The test current of R21 flows with the switch open and the OPEN_OFF enable set, and with neither alone. -/
theorem test_outputs :
    ([on16, off16, { on16 with record := { record16 with openOffEnable := true } },
        { off16 with record := { record16 with openOffEnable := true } }].map fun v =>
      ((withSup v).switchClosed 0, (withSup v).testCurrent 0)) =
      [(true, false), (false, false), (true, false), (false, true)] := by decide +kernel

theorem witness_TripsOpenTheSwitch_1 : Seen fun v => v.protection.closed = true ∧ v.limitTimer = true :=
  seen limiting16 (by decide)
theorem witness_TripsOpenTheSwitch_2 : (Seen fun v => v.limitTimer = false) ∧ Seen fun v => v.protection.closed = false :=
  ⟨seen on16 (by decide), seen off16 (by decide)⟩
theorem witness_TripsOpenTheSwitch_3 : (Seen fun v => v.protection.closed = true ∧ v.hot = false) ∧ (160000 : Int) ≤ 160000 :=
  ⟨seen on16 (by decide), by decide⟩
theorem witness_TripsOpenTheSwitch_4 : (Seen fun v => v.protection.closed = false ∧ v.hot = false) ∧ (160000 : Int) ≤ 160000 :=
  ⟨seen off16 (by decide), by decide⟩
theorem witness_TripsOpenTheSwitch_5 : (Seen fun v => v.hot = true) ∧ (159999 : Int) < 160000 :=
  ⟨seen { off16 with hot := true } (by decide), by decide⟩

theorem witness_AttemptOutOfCooldown_1 : Seen fun v => v.protection = .cooldown ∧ v.cooldown = .running 10 ∧ v.hot = false :=
  seen cooldown16 (by decide)
theorem witness_AttemptOutOfCooldown_2 : Seen fun v => v.protection = .cooldown ∧ v.cooldown = .running 10 ∧ v.hot = true :=
  seen { cooldown16 with hot := true } (by decide)
theorem witness_AttemptOutOfCooldown_3 : Seen fun v => v.cooldown = .stopped := seen on16 (by decide)
theorem witness_AttemptOutOfCooldown_4 : (Seen fun v => v.hot = true ∧ v.protection = .cooldown ∧ v.cooldown = .elapsed) ∧
    (144999 : Int) < 145000 := ⟨seen { cooldown16 with hot := true, cooldown := .elapsed } (by decide), by decide⟩
theorem witness_AttemptOutOfCooldown_5 : (Seen fun v => v.hot = true ∧ v.cooldown ≠ .elapsed) ∧ (144999 : Int) < 145000 :=
  ⟨seen { cooldown16 with hot := true } (by decide), by decide⟩
theorem witness_AttemptOutOfCooldown_6 : (Seen fun v => v.hot = false) ∧ (145000 : Int) ≤ 145000 :=
  ⟨seen cooldown16 (by decide), by decide⟩

theorem witness_OpenOnDetector_1 : Seen fun v => v.protection = .on ∧ v.record.openOnEnable = true ∧ v.openOn = false ∧
    v.openOnTimer = none ∧ 9999 < v.record.openThreshold.current := seen on16 (by decide)
theorem witness_OpenOnDetector_2 : Seen fun v => v.protection = .on ∧ v.record.openOnEnable = true ∧ v.openOn = false ∧
    v.record.openThreshold.current ≤ 10000 := seen { on16 with openOnTimer := some .ms6 } (by decide)
theorem witness_OpenOnDetector_3 : (Seen fun v => v.protection ≠ .on) ∧ (Seen fun v => v.record.openOnEnable = false) ∧
    Seen fun v => v.openOn = true :=
  ⟨seen off16 (by decide), seen { on16 with record := { record16 with openOnEnable := false } } (by decide),
    seen { on16 with openOn := true } (by decide)⟩
theorem witness_OpenOnDetector_4 : (Seen fun v => v.openOnTimer = some .ms6) ∧ Seen fun v => v.openOnTimer = none :=
  ⟨seen { on16 with openOnTimer := some .ms6 } (by decide), seen on16 (by decide)⟩
theorem witness_OpenOnDetector_5 : Seen fun v => v.openOn = true ∧ 125 * v.record.openThreshold.current < 100 * 12501 :=
  seen { on16 with openOn := true } (by decide)
theorem witness_OpenOnDetector_6 : (Seen fun v => v.openOn = false) ∧
    Seen fun v => 100 * 12500 ≤ 125 * v.record.openThreshold.current :=
  ⟨seen on16 (by decide), seen { on16 with openOn := true } (by decide)⟩

theorem witness_OffStateDetectorTimers : (Seen fun v => v.openOff.qualifying = true ∧ v.shortSupply.qualifying = false) ∧
    (Seen fun v => v.openOff.clearing = true ∧ v.shortSupply.clearing = true) ∧
    Seen fun v => v.shortSupply.qualifying = true :=
  ⟨seen { lockedSensed with openOff := ⟨true, false, false⟩ } (by decide),
    seen { lockedSensed with openOff := ⟨false, true, true⟩, shortSupply := ⟨false, true, true⟩ } (by decide),
    seen { lockedSensed with shortSupply := ⟨true, false, false⟩ } (by decide)⟩

/-- As `Seen`, of a field side in a given band. -/
def SeenIn (b : Band) (P : Supervisor → Prop) : Prop :=
  ∃ (s : State) (f : FieldSide) (c : Chan) (v : Supervisor),
    s.field = some f ∧ f.band = b ∧ (f.channels.get c).supervisor = v ∧ P v

theorem seenNormal {P : Supervisor → Prop} (v : Supervisor) (h : P v) : SeenIn .normal P :=
  ⟨withSupNormal v, { fieldWith { channel0 with supervisor := v } with band := .normal, candidate := .normal, filterTimer := false },
    0, v, rfl, rfl, rfl, h⟩

theorem seenDropout {P : Supervisor → Prop} (v : Supervisor) (h : P v) : SeenIn .dropout P :=
  ⟨withSup v, fieldWith { channel0 with supervisor := v }, 0, v, rfl, rfl, rfl, h⟩

theorem witness_OffStateVoltage_1 : SeenIn .normal fun v => v.protection.closed = false ∧ v.blanking = .elapsed :=
  seenNormal lockedSensed (by decide)
theorem witness_OffStateVoltage_2 : (SeenIn .normal fun v => v.protection.closed = true) ∧
    (SeenIn .normal fun v => v.blanking ≠ .elapsed) ∧ SeenIn .dropout fun v => v.blanking = .elapsed :=
  ⟨seenNormal on16 (by decide), seenNormal off16 (by decide), seenDropout lockedSensed (by decide)⟩
theorem witness_OffStateVoltage_3 : SeenIn .normal fun v => v.protection.closed = false ∧ v.blanking = .running :=
  seenNormal { lockedSensed with blanking := .running } (by decide)
theorem witness_OffStateVoltage_4 : SeenIn .dropout fun v => v.blanking = .running :=
  seenDropout { lockedSensed with blanking := .running } (by decide)
theorem witness_OffStateVoltage_5 : SeenIn .normal fun v => v.blanking ≠ .running := seenNormal lockedSensed (by decide)

/-! ## The Supply Monitor and the field die -/

/-- The columns of TABLE 22 at their ends, for each band in force. -/
theorem test_candidateBand :
    ([12999, 13000, 14000, 14001, 17499, 17500, 18500, 18501].map fun vf =>
        (candidateBand .dropout vf, candidateBand .low vf, candidateBand .normal vf)) =
      [(.dropout, .dropout, .dropout), (.dropout, .low, .low), (.dropout, .low, .low), (.low, .low, .low),
        (.low, .low, .low), (.low, .low, .normal), (.low, .low, .normal), (.normal, .normal, .normal)] := by decide

/-- VF moves to 16 V after a field reset: the candidate is LOW and the filter runs (R45). -/
theorem test_vfCandidateChange :
    (after (.vfCandidateChange 16000) State.reset).field.map (fun f => (f.band, f.candidate, f.filterTimer)) =
      some (.dropout, .low, true) := by decide +kernel

/-- The filter reaches 1 ms: the candidate is the band in force (R45). -/
theorem test_supplyFilterExpiry :
    (after (.supplyFilterExpiry (Table.all 0)) State.reset).field.map (fun f => (f.band, f.filterTimer)) =
      some (.normal, false) := by decide +kernel

/-- VF below 8.0 V stops the field die (R46); at 8.0 V it goes on. -/
theorem test_fieldDieStop :
    (after (.fieldDieStop 7999) State.reset).field = none ∧ (after (.fieldDieStop 8000) State.reset).field.isSome = true := by
  decide +kernel

/-- A start above 9.0 V finds a junction at 160 °C HOT, and a junction a thousandth below it COOL (R27). -/
theorem test_fieldResetSupply :
    (after (.fieldResetSupply ⟨9001, Table.ofFn fun c => ⟨0, 0, if c = 2 then 160000 else 159999⟩⟩)
        { State.reset with field := none }).field.map (fun f => (f.cause, f.boot, f.silent,
          (f.channels.get 2).supervisor.hot, (f.channels.get 3).supervisor.hot)) =
      some (.supply, true, true, true, false) := by decide +kernel

/-- The field side of the part when VF is in band NORMAL and the 1 ms of silence has passed. -/
def fieldUp : FieldSide :=
  { field0 with silent := false, watch := some 60, band := .normal, candidate := .normal, filterTimer := false }

/-- A field side in ACTIVE with no field reset outstanding. -/
def fieldActive : FieldSide := { fieldUp with mode := .active, boot := false }

/-- The part with the field side and the drive frame under way as given. -/
def withField (f : FieldSide) (d : Option DriveFrame) : State :=
  { State.reset with field := some f, barrier := ⟨d, [], []⟩ }

/-- A drive frame of cycle 7 with the resume flag and channels 0 and 2 demanded. -/
def drive7 : DriveFrame := ⟨7, false, false, true, false, 0b000000000101#12, Table.all 0, none⟩

/-- The 1 ms of silence ends and the watch timer starts with 60 µs (R69). -/
theorem test_supplyResetSilenceExpiry :
    (after .supplyResetSilenceExpiry State.reset).field.map (fun f => (f.silent, f.watch)) = some (false, some 60) := by
  decide +kernel

/-- A good drive frame in ACTIVE: the cycle number, the demands of channels 0 and 2, and a status frame that shows them (R64, R67). -/
theorem test_driveFrameTaken :
    (after (.driveFrameTaken FieldSense.nominal) (withField { fieldActive with misses := 3 } (some drive7))).barrier.status.map
        (fun f => (f.cycle, f.mode, (f.channels.get 0).protection, (f.channels.get 1).protection,
          (f.channels.get 2).protection)) =
      [(7, .active, .on, .off, .on)] := by decide +kernel

/-- In the silence after a field reset of cause SUPPLY the frame is discarded (R69). -/
theorem test_driveFrameTaken_silent :
    after (.driveFrameTaken FieldSense.nominal) State.reset =
      { State.reset with barrier := ⟨none, [], []⟩ } := by decide +kernel

/-- The fourth consecutive miss in ACTIVE enters SAFE, and the watch timer starts again with 50 µs (TABLE 37, d3 to d4; R66). -/
theorem test_watchTimerExpiry :
    (after .watchTimerExpiry (withField { fieldActive with misses := 2 } none)).field.map (fun f => (f.misses, f.mode, f.watch)) =
        some (3, .active, some 50) ∧
      (after .watchTimerExpiry (withField { fieldActive with misses := 3 } none)).field.map (fun f => (f.misses, f.mode)) =
        some (4, .safe) := by decide +kernel

/-- A record whose fail action is HOLD, with a hold time of 100 ms. -/
def recordHold : ConfigRecord := { record16 with failAction := .hold }

/-- A channel in ON that holds its output in SAFE. -/
def channelHeld : FieldChannel := ⟨true, some 10, 0, none, { on16 with record := recordHold }⟩

/-- A field side in SAFE in which channel 0 holds its output. -/
def fieldSafe : FieldSide :=
  { fieldActive with mode := .safe, misses := 4, channels := field0.channels.set 0 channelHeld }

/-- The hold ends: the effective demand is OFF and the channel is in OFF (R51). -/
theorem test_holdTimerExpiry :
    (after (.holdTimerExpiry 0) (withField fieldSafe none)).field.map (fun f => ((f.channels.get 0).effective,
        (f.channels.get 0).hold, (f.channels.get 0).supervisor.protection)) = some (false, none, .off) := by decide +kernel

/-! ### Witnesses: the field side -/

theorem reset_sound (b : Band) : (FieldChannel.reset 25000).supervisor.Sound (FieldChannel.reset 25000).effective b := by
  cases b <;> constructor <;> first | decide | (constructor <;> decide)

theorem held_sound : channelHeld.supervisor.Sound true .normal := by
  constructor <;> first | decide | (constructor <;> decide)

theorem on16_sound : on16.Sound true .normal := by
  constructor <;> first | decide | (constructor <;> decide)

theorem fieldUp_sound (b k : Band) : ({ fieldUp with band := b, candidate := k, filterTimer := decide (k ≠ b) } : FieldSide).Sound where
  supervisors := by
    have h : ∀ c : Chan, fieldUp.channels.get c = FieldChannel.reset 25000 := by decide +kernel
    intro c
    show (fieldUp.channels.get c).supervisor.Sound (fieldUp.channels.get c).effective b
    rw [h c]
    exact reset_sound b
  effective := by cases b <;> cases k <;> decide +kernel
  holds := by cases b <;> cases k <;> decide +kernel
  boot_waiting := fun _ => rfl
  active_misses := by intro h; cases h
  misses_le := Nat.zero_le 255
  watch_timer := by cases b <;> cases k <;> decide
  filter_timer := rfl

theorem fieldSafe_sound : fieldSafe.Sound where
  supervisors := by
    have h : ∀ c : Chan, c ≠ 0 → fieldSafe.channels.get c = FieldChannel.reset 25000 := by decide +kernel
    intro c
    by_cases hc : c = 0
    · subst hc
      exact held_sound
    · rw [h c hc]
      exact reset_sound _
  effective := by decide +kernel
  holds := by decide +kernel
  boot_waiting := by decide
  active_misses := by decide
  misses_le := by decide
  watch_timer := by decide
  filter_timer := by decide

theorem witness_FieldCommandsNoninterference : ∃ s s' : State, s ≠ s' ∧ onFieldDie (.junctionHot ⟨3, 160000⟩) = true ∧
    s.field = s'.field ∧ s.barrier = s'.barrier := ⟨State.reset, { State.reset with lastCause := .pin }, by decide +kernel⟩
theorem witness_LogicCommandsNoninterference : onFieldDie .markFall = false := by decide
theorem witness_HeldResetFreezesLogicSide : ({ State.reset with held := some .pin } : State).held.isSome = true ∧
    onFieldDie (.setMode 1 0 0) = false ∧ onFieldDie .commandTaken = false ∧
    (Instr.commandTaken ≠ .markFall ∧ Instr.commandTaken ≠ .markRise ∧ (∀ l, Instr.commandTaken ≠ .nstopPinChange l) ∧
      (∀ p, Instr.commandTaken ≠ .controlResetStart p) ∧ ∀ p, Instr.commandTaken ≠ .controlResetEnd p) :=
  ⟨rfl, rfl, rfl, nofun, nofun, nofun, nofun, nofun⟩
theorem witness_ControlReset : ({ State.reset with held := some .pin } : State).held = some .pin ∧ State.reset.held = none := by
  decide
theorem witness_FieldDieStopsAndStarts : 7999 < 8000 ∧ ({ State.reset with field := none } : State).field = none ∧
    9000 < ({ FieldSense.nominal with vf := 9001 } : FieldSense).vf ∧ ({ FieldSense.nominal with vf := 9000 } : FieldSense).vf ≤ 9000 ∧
    8000 ≤ 8000 ∧ State.reset.field = some field0 := by decide +kernel
theorem witness_StepTakesFrontCommand : State.reset.pending = [] ∧
    ({ State.reset with pending := [.markFall, .markRise] } : State).pending ≠ [] := by decide

theorem witness_CandidateBand : State.reset.field = some field0 ∧
    (8000 ≤ 12999 ∧ 12999 < 13000) ∧ (13000 ≤ 14000 ∧ field0.band = .dropout) ∧ (14000 < 14001 ∧ 14001 < 17500) ∧
    (17500 ≤ 17500 ∧ 17500 ≤ 18500) ∧ 18500 < 18501 := by decide +kernel

theorem witness_SupplyFilterExpiry_1 : ∃ f : FieldSide, (withField f none).field = some f ∧ f.Sound ∧
    f.filterTimer = true ∧ f.candidate = .dropout := ⟨_, rfl, fieldUp_sound .normal .dropout, rfl, rfl⟩
theorem witness_SupplyFilterExpiry_2 : ∃ f : FieldSide, (withField f none).field = some f ∧ f.Sound ∧
    f.filterTimer = true ∧ f.band = .dropout := ⟨_, rfl, fieldUp_sound .dropout .low, rfl, rfl⟩
theorem witness_SupplyFilterExpiry_3 : ∃ f : FieldSide, (withField f none).field = some f ∧ f.Sound ∧
    f.filterTimer = true ∧ f.candidate ≠ .dropout ∧ f.band ≠ .dropout :=
  ⟨_, rfl, fieldUp_sound .low .normal, rfl, by decide, by decide⟩
theorem witness_SupplyFilterExpiry_4 : ∃ f : FieldSide, (withField f none).field = some f ∧ f.Sound ∧
    f.filterTimer = false := ⟨_, rfl, fieldUp_sound .normal .normal, rfl⟩

theorem witness_DriveFrameAnswered_1 : ∃ s : State, s.field = some fieldUp ∧ fieldUp.silent = false ∧
    s.barrier.drive = some DriveFrame.first ∧ DriveFrame.first.slot = none ∧ fieldUp.boot = true :=
  ⟨withField fieldUp (some DriveFrame.first), by decide +kernel⟩
theorem witness_DriveFrameAnswered_2 : ∃ s : State, s.field = some fieldSafe ∧ fieldSafe.silent = false ∧
    s.barrier.drive = some drive7 ∧ drive7.slot = none ∧ drive7.controlBoot = false ∧ drive7.resume = true ∧
    fieldSafe.boot = false := ⟨withField fieldSafe (some drive7), by decide +kernel⟩
theorem witness_DriveFrameAnswered_3 : (∀ f, State.reset.field = some f → f.silent = true) ∧
    ∀ f, ({ State.reset with field := none } : State).field = some f → f.silent = true :=
  ⟨by intro f h; cases h; rfl, by intro f h; cases h⟩

/-- The slot (5, 4, B) of TABLE 20, and the field side that holds generation 3 for channel 5. -/
def slot20 : ConfigSlot := ⟨5, 4, record16⟩
def field20 (g : Gen) : FieldSide :=
  { fieldActive with channels := fieldActive.channels.update 5 fun ch => { ch with applied := some g } }

theorem witness_ConfigurationSlotApplied : ∃ s s' : State,
    (s.field = some (field20 4) ∧ s.barrier.drive = some { drive7 with slot := some slot20 } ∧
      ((field20 4).channels.get 5).applied = some slot20.generation) ∧
    (s'.field = some (field20 3) ∧ s'.barrier.drive = some { drive7 with slot := some slot20 } ∧ (field20 3).silent = false ∧
      ((field20 3).channels.get 5).applied ≠ some slot20.generation) :=
  ⟨withField (field20 4) (some { drive7 with slot := some slot20 }), withField (field20 3) (some { drive7 with slot := some slot20 }),
    by decide +kernel⟩

/-- Cycle c1 of TABLE 20: the slot is applied, and the status frame shows generation 4. -/
theorem test_driveFrameTaken_slot :
    (after (.driveFrameTaken FieldSense.nominal) (withField (field20 3) (some { drive7 with slot := some slot20 }))).barrier.status.map
      (fun f => (f.channels.get 5).applied) = [some 4] := by decide +kernel

theorem witness_RecordApplied : on16.Sound true .normal ∧ on16.protection = .on ∧
    (({ record16 with limitClass := .low } : ConfigRecord).limitClass.limit < on16.record.limitClass.limit ∧
      ({ record16 with limitClass := .low } : ConfigRecord).limitClass.limit ≤ 500000 ∧ on16.settleTimer = true) ∧
    ({ record16 with openOnEnable := false } : ConfigRecord).openOnEnable = false ∧ record16.openOffEnable = false ∧
    (record16.openOnEnable = true ∧ on16.record.openOnEnable = true ∧ on16.openOn = false) ∧
    ({ record16 with openQualification := .ms20 } : ConfigRecord).openQualification ≠ on16.record.openQualification ∧
    ({ record16 with openThreshold := .ma40 } : ConfigRecord).openThreshold ≠ on16.record.openThreshold ∧
    (9999 < record16.openThreshold.current ∧ ¬10000 < record16.openThreshold.current) ∧
    record16.shortSupplyEnable = true := ⟨on16_sound, by decide⟩
theorem witness_RecordApplied_open_on : ({ on16 with openOn := true } : Supervisor).Sound true .normal ∧
    ({ on16 with openOnTimer := some .ms6 } : Supervisor).Sound true .normal ∧
    ({ on16 with record := { record16 with openOnEnable := false } } : Supervisor).Sound true .normal := by
  refine ⟨?_, ?_, ?_⟩ <;> constructor <;> first | decide | (constructor <;> decide)
theorem witness_RecordApplied_limiting : limiting16.Sound true .normal ∧ limiting16.protection = .limiting ∧
    (({ record16 with limitClass := .high } : ConfigRecord).limitClass ≠ limiting16.record.limitClass ∧
      10 * 1799999 < 9 * ({ record16 with limitClass := .high } : ConfigRecord).limitClass.limit) :=
  ⟨by constructor <;> first | decide | (constructor <;> decide), by decide⟩
theorem witness_RecordApplied_off : ({ off16 with blanking := .elapsed } : Supervisor).Sound false .normal ∧
    ({ off16 with blanking := .elapsed } : Supervisor).protection.closed = false ∧ off16.record.openOffEnable = false ∧
    ({ record16 with openOffEnable := true } : ConfigRecord).openOffEnable = true ∧ Band.normal ≠ .dropout ∧
    off16.record.shortSupplyEnable = true ∧ (4500 : Int) ≤ 4500 ∧ (4500 : Int) ≤ 11000 ∧ ¬(11000 : Int) < 11000 :=
  ⟨by constructor <;> first | decide | (constructor <;> decide), by decide⟩
theorem witness_RecordApplied_starting : starting16.Sound true .normal ∧ starting16.protection = .starting ∧
    ({ record16 with limitClass := .high } : ConfigRecord).limitClass ≠ starting16.record.limitClass :=
  ⟨by constructor <;> first | decide | (constructor <;> decide), by decide⟩

theorem witness_ControlBootResetsFieldSide : ∃ s s' : State,
    (s.field = some fieldActive ∧ fieldActive.silent = false ∧ fieldActive.boot = false ∧
      s.barrier.drive = some DriveFrame.first ∧ DriveFrame.first.controlBoot = true ∧ DriveFrame.first.slot = none ∧
      DriveFrame.first.fieldBootSeen = false ∧ DriveFrame.first.demand = 0 ∧ ∀ c, DriveFrame.first.tokens.get c = 0) ∧
    (s'.field = some fieldUp ∧ fieldUp.boot = true ∧ s'.barrier.drive = some DriveFrame.first) ∧
    ∃ s'' : State, s''.field = some fieldActive ∧
      s''.barrier.drive = some { drive7 with controlBoot := true, tokens := Table.all 2, slot := some slot20 } :=
  ⟨withField fieldActive (some DriveFrame.first), withField fieldUp (some DriveFrame.first), by decide +kernel, by decide +kernel,
    withField fieldActive (some { drive7 with controlBoot := true, tokens := Table.all 2, slot := some slot20 }), rfl, rfl⟩

theorem witness_WatchTimerCountsMiss : (fieldActive.watch = some 60 ∧ ¬(fieldActive.mode = .active ∧ 3 ≤ fieldActive.misses)) ∧
    (({ fieldActive with misses := 3 } : FieldSide).watch = some 60 ∧ ({ fieldActive with misses := 3 } : FieldSide).mode = .active ∧
      3 ≤ ({ fieldActive with misses := 3 } : FieldSide).misses) ∧
    ({ fieldUp with misses := 255 } : FieldSide).watch = some 60 ∧ State.reset.field = some field0 ∧ field0.watch = none := by
  decide +kernel

theorem witness_HoldAndSilenceExpiry : fieldSafe.Sound ∧ (fieldSafe.channels.get 0).hold = some 10 ∧
    (fieldSafe.channels.get 11).hold = none ∧ field0.silent = true ∧ fieldSafe.silent = false ∧
    (withField fieldSafe none).field = some fieldSafe := ⟨fieldSafe_sound, by decide +kernel⟩

/-! ## The Barrier Link Controller -/

/-- A channel of the Channel Table whose generation 0 is applied. -/
def entryUp : ChannelEntry := { ChannelEntry.reset with mirror := { ChannelStatus.reset with applied := some 0 } }

/-- The Channel Table after a bring-up. -/
def ctUp : ChannelTable := { ChannelTable.reset .high with armed := true, band := .normal, entries := Table.all entryUp }

/-- The Controller with the link UP. -/
def blcUp : BarrierController := { BarrierController.reset with link := .up, controlBoot := false, mirrorMode := .active }

/-- The part with the link UP and nothing queued. -/
def linkUp : State :=
  { State.reset with
    ct := ctUp, blc := blcUp, ru := { ReportUnit.reset .power with queue := [] }
    hlk := { HostLink.reset 0 with txd := .idle } }

/-- What a channel in OFF shows under generation 0. -/
def statusOff : ChannelStatus := { ChannelStatus.reset with applied := some 0 }

/-- A status frame of cycle 0 that shows ACTIVE and NORMAL, with channel 9 as given. -/
def statusWith (m : ChannelStatus) : StatusFrame :=
  ⟨0, false, .supply, .active, .normal, (Table.all statusOff).set 9 m⟩

/-- The part with a status frame under way. -/
def showing (s : State) (f : StatusFrame) : State := { s with barrier := ⟨none, [f], []⟩ }

/-- The events in the report queue. -/
def events (s : State) : List Event := s.ru.queue.map ReportRecord.event

/-- TABLE 37, d4: a frame that shows SAFE moves UP to SYNCING and raises BARRIER; at d12 the eighth clean frame ends SYNCING. -/
theorem test_goodStatusFrameTaken_safe :
    (let t := after (.goodStatusFrameTaken 0) (showing linkUp { statusWith statusOff with mode := .safe });
      (t.blc.link, t.blc.sync, events t)) = (.syncing, 0, [.barrier .up .syncing]) ∧
    (let t := after (.goodStatusFrameTaken 0) (showing { linkUp with blc := { blcUp with link := .syncing, sync := 7 } }
        { statusWith statusOff with mode := .safe });
      (t.blc.link, t.blc.sync, events t)) = (.up, 8, [.barrier .syncing .up]) := by decide +kernel

/-- What TABLE 45 shows of channel 9 at step 0. -/
def status45 : ChannelStatus :=
  ⟨.locked, 0, ⟨false, true, false, false, false⟩, ⟨0, 1, 0, 0, 0⟩, some 0, 0⟩

/-- TABLE 45, step 0: FAULT_SET, then LOCKED with cause OVERTEMP; the latch is set and NALERT asserted. -/
theorem test_goodStatusFrameTaken_trip :
    (let t := after (.goodStatusFrameTaken 0) (showing linkUp (statusWith status45));
      (events t, (t.ct.entries.get 9).latched, (t.ct.entries.get 9).baseline.overtemp, t.nalert)) =
      ([.faultSet 9 .overtemp, .locked 9 .overtemp], ⟨false, true, false, false, false⟩, 1, true) := by decide +kernel

/-- The fourth consecutive miss makes the link LOST (R71), and a quality count of 64 makes UP DEGRADED (R74). -/
theorem test_barrierCycleStart_miss :
    (let t := after (.barrierCycleStart []) { linkUp with blc := { blcUp with misses := 3 } };
      (t.blc.link, t.blc.misses, t.blc.quality, t.blc.time, events t)) = (.lost, 4, 4, 1, [.barrier .up .lost]) ∧
    (let t := after (.barrierCycleStart []) { linkUp with blc := { blcUp with quality := 60 } };
      (t.blc.link, t.blc.quality)) = (.degraded, 64) := by decide +kernel

/-- The slot schedule (R81): from pointer 5 the next pending channel in order is 9, and from pointer 9 it wraps to 2. -/
theorem test_barrierCycleStart_slot :
    (let table := { ctUp with
        entries := (ctUp.entries.set 2 { entryUp with pending := true }).set 9 { entryUp with pending := true, generation := 3 } };
      ([5, 9].map fun p : Chan =>
        (after (.barrierCycleStart []) { linkUp with ct := table, blc := { blcUp with slotPointer := p } }).barrier.drive.map
          fun d => d.slot.map fun x => (x.channel, x.generation))) = [some (some (9, 3)), some (some (2, 0))] := by decide +kernel

/-- The three examples of R31. -/
theorem test_advance :
    ({ entryUp with generation := 3, mirror := { statusOff with applied := some 3 } } : ChannelEntry).advance.generation = 4 ∧
    ({ entryUp with generation := 4, doubt := 0b00010000, mirror := { statusOff with applied := some 3 } } :
        ChannelEntry).advance.generation = 5 ∧
    (let e := ({ entryUp with generation := 2, doubt := 0b11110111, mirror := { statusOff with applied := some 3 } } :
        ChannelEntry).advance;
      (e.generation, e.held) = (4, true)) := by decide

/-! ### Witnesses: the Barrier Link Controller and the Channel Table -/

/-- The part with a command that waits. -/
def waiting : State :=
  { linkUp with
    ct := { ctUp with entries := ctUp.entries.set 5 { entryUp with pending := true, generation := 1, doubt := 2 } }
    ce := ⟨.waiting ⟨⟨10, 0x20, []⟩, .confirmation 0b000000100000, 399⟩, none⟩ }

theorem witness_CycleStart : State.reset.runs = true ∧ linkUp.blc.goodTaken = false ∧
    ({ blcUp with goodTaken := true } : BarrierController).goodTaken = true ∧
    waiting.ce.engine = .waiting ⟨⟨10, 0x20, []⟩, .confirmation 0b000000100000, 399⟩ ∧ waiting.runs = true ∧
    linkUp.ce.engine = .idle := by decide +kernel

theorem witness_DriveFrameBuilt_1 : 11 < 12 ∧ (5 : Chan) = (5 : Chan) + Fin.ofNat 12 (11 + 1) ∧
    (waiting.ct.entries.get 5).pending = true ∧ (waiting.ct.entries.get 5).held = false ∧
    (∀ k < 11, (waiting.ct.entries.get ((5 : Chan) + Fin.ofNat 12 (k + 1))).pending = false) ∧
    ({ waiting with blc := { blcUp with slotPointer := 5 } } : State).blc.slotPointer = 5 := by decide +kernel
theorem witness_DriveFrameBuilt_2 : ∀ c, (State.reset.ct.entries.get c).pending = false := by decide +kernel
theorem witness_DriveFrameBuilt_3 : ∃ s : State, s.runs = true ∧ s.blc.goodTaken = true ∧ s.ru.timer = none ∧
    (∀ c, (s.ct.entries.get c).countdown = none) ∧ s.hlk.timeout = 0 ∧ s.ce.engine = .idle :=
  ⟨{ linkUp with blc := { blcUp with goodTaken := true } }, by decide +kernel⟩

/-- The status frame of `showing` is under way, and is good. -/
theorem witness_GoodStatusFrameLinkState_1 : linkUp.runs = true ∧
    ((showing linkUp (statusWith statusOff)).barrier.late ++ (showing linkUp (statusWith statusOff)).barrier.status)[0]? =
      some (statusWith statusOff) ∧
    (statusWith statusOff).cycle = linkUp.blc.time.setWidth 8 ∧ linkUp.blc.goodTaken = false := by decide +kernel
theorem witness_GoodStatusFrameLinkState_2 :
    ({ statusWith statusOff with cycle := 255 } : StatusFrame).cycle ≠ linkUp.blc.time.setWidth 8 ∧
    ({ blcUp with goodTaken := true } : BarrierController).goodTaken = true := by decide

theorem ctUp_sound : ctUp.Sound := by
  have h : ∀ c : Chan, ctUp.entries.get c = entryUp := by decide +kernel
  intro c
  rw [h c]
  constructor <;> decide

theorem witness_GoodStatusFrameTaken : (showing linkUp (statusWith status45)).runs = true ∧
    ((showing linkUp (statusWith status45)).barrier.late ++ (showing linkUp (statusWith status45)).barrier.status)[0]? =
      some (statusWith status45) ∧ (statusWith status45).cycle = linkUp.blc.time.setWidth 8 ∧ linkUp.blc.goodTaken = false ∧
    (statusWith status45).boot = false ∧ (showing linkUp (statusWith status45)).ct.Sound :=
  ⟨rfl, rfl, by decide, rfl, rfl, ctUp_sound⟩

/-- The first status frame of a field side after its reset. -/
def statusBoot : StatusFrame := fieldUp.statusFrame

theorem witness_FieldRestartReplays : (showing linkUp statusBoot).runs = true ∧
    ((showing linkUp statusBoot).barrier.late ++ (showing linkUp statusBoot).barrier.status)[0]? = some statusBoot ∧
    statusBoot.cycle = linkUp.blc.time.setWidth 8 ∧ linkUp.blc.goodTaken = false ∧ statusBoot.boot = true ∧
    linkUp.blc.mirrorBoot = false ∧ (linkUp.ct.entries.get 0).held = false ∧ (∀ w, linkUp.ce.engine ≠ .waiting w) :=
  ⟨rfl, by decide +kernel, by decide +kernel, rfl, rfl, rfl, by decide +kernel, nofun⟩
/-- A held channel of generation 4 whose frame shows 4 applied ends its hold at 5 and is replayed at 6; one that shows none, at 5. -/
theorem witness_FieldRestartReplays_held : ∃ e : ChannelEntry, e.held = true ∧ e.generation = 4 ∧
    (e.takeRestart { ChannelStatus.reset with applied := some 4 }).generation = 6 ∧
    (e.takeRestart ChannelStatus.reset).generation = 5 ∧
    (e.takeRestart { ChannelStatus.reset with applied := some 5 }).generation = 6 :=
  ⟨{ entryUp with held := true, generation := 4, pending := true }, rfl, rfl, by decide⟩

/-- A detected field restart replays every channel under generation 1 and raises FIELD_RESTART (R41, R79). -/
theorem test_goodStatusFrameTaken_restart :
    (let t := after (.goodStatusFrameTaken 0) (showing linkUp { statusBoot with band := .normal });
      (events t, (t.ct.entries.get 11).generation, (t.ct.entries.get 11).pending, t.blc.fieldBootSeen)) =
      ([.fieldRestart .supply, .barrier .up .syncing], 1, true, true) := by decide +kernel

/-- A channel at generation `g` with the doubt set and the mirrored applied generation as given. -/
def entryAt (g : Gen) (doubt : GenSet) (applied : Option Gen) : ChannelEntry :=
  { entryUp with generation := g, doubt := doubt, mirror := { statusOff with applied := applied } }

theorem witness_GenerationAdvance_1 : ∃ e : ChannelEntry, ∃ n : Nat, n = 7 ∧
    ¬(e.mirror.applied = some (e.generation + BitVec.ofNat 3 n) ∨ e.doubt.getLsbD (e.generation + BitVec.ofNat 3 n).toNat = true) ∧
    ∀ k < n, 0 < k → e.mirror.applied = some (e.generation + BitVec.ofNat 3 k) ∨
      e.doubt.getLsbD (e.generation + BitVec.ofNat 3 k).toNat = true :=
  ⟨entryAt 0 0b01111110 none, 7, by decide⟩
theorem witness_GenerationAdvance_2 : ∃ e : ChannelEntry, ∃ n : Nat, n = 2 ∧
    (∀ k < 8, 0 < k → e.mirror.applied = some (e.generation + BitVec.ofNat 3 k) ∨
      e.doubt.getLsbD (e.generation + BitVec.ofNat 3 k).toNat = true) ∧
    e.mirror.applied ≠ some (e.generation + BitVec.ofNat 3 n) ∧
    ∀ k < n, 0 < k → e.mirror.applied = some (e.generation + BitVec.ofNat 3 k) :=
  ⟨entryAt 2 0b11110111 (some 3), 2, by decide⟩
theorem witness_GenerationAdvance_3 : ∃ e : ChannelEntry, e.mirror.applied = some e.generation ∧
    ∀ g : Gen, e.doubt.getLsbD g.toNat = true → g = e.generation :=
  ⟨entryAt 4 0b00010000 (some 4), by decide⟩
theorem witness_GenerationAdvance_4 : (entryAt 3 0 (some 3)).mirror.applied = some 3 ∧
    (entryAt 4 0b00010000 (some 3)).mirror.applied = some 3 ∧ (entryAt 2 0b11110111 (some 3)).mirror.applied = some 3 ∧
    ({ ctUp with entries := ctUp.entries.set 7 { entryUp with pending := true } } : ChannelTable).nextSlot 11 = some 7 := by
  decide +kernel

/-! ## NSTOP, host silence and the Action Queue -/

/-- The NSTOP pin of the running part. -/
def stopMoving (pin recognised : Level) (demand : ChanSet) (q : List Action) : State :=
  { linkUp with
    ct := { ctUp with nstopPin := pin, nstop := recognised, nstopFilter := decide (pin ≠ recognised), demand := demand }
    aq := q }

/-- Tag 21 of TABLE 40 as it is queued at part time 1,000,000, and its REVERT. -/
def main21 : Action := ⟨21, .main, .atTime 1002000, 0b000101000000, 0b000101000000, some 4000⟩
def revert21 : Action := ⟨21, .revert, .atTime 1006000, 0b000101000000, 0b000100000000, none⟩

/-- Tag 22 of TABLE 40. -/
def mark22 : Action := ⟨22, .main, .atMark, 0b000001000000, 0, none⟩

/-- The part at a part time, with a demand and a queue. -/
def atTime (now : PartTime) (demand : ChanSet) (q : List Action) : State :=
  { linkUp with blc := { blcUp with time := now }, ct := { ctUp with demand := demand }, aq := q }

/-- The pin falls: the filter runs toward LOW, and a return abandons it (R54). -/
theorem test_nstopPinChange :
    (after (.nstopPinChange .low) linkUp).ct.nstopFilter = true ∧
      (after (.nstopPinChange .high) (after (.nstopPinChange .low) linkUp)).ct.nstopFilter = false := by decide +kernel

/-- The example after TABLE 40: NSTOP at 1,004,500 flushes two entries, and every demand is OFF. -/
theorem test_nstopFilterExpiry :
    (let t := after .nstopFilterExpiry (stopMoving .low .high 0b000001000000 [revert21, mark22]);
      (t.ct.demand, t.aq, t.ct.nstop, events t)) = (0, [], .low, [.queueFlushed .stop 2, .stop .asserted]) := by decide +kernel

/-- NSTOP_ASSERTION with nothing queued raises STOP alone (R106). -/
theorem test_nstopAssertion : events (after .nstopAssertion (stopMoving .low .high 1 [])) = [.stop .asserted] := by
  decide +kernel

/-- NSTOP_RELEASE raises STOP and restores no demand (R56). -/
theorem test_nstopRelease :
    (let t := after .nstopRelease (stopMoving .high .low 0 []);
      (t.ct.demand, t.ct.nstop, events t)) = (0, .high, [.stop .released]) := by decide +kernel

/-- The part at 1,004,500 of the example after TABLE 40, with the silence count at the timeout and channel 8 set to HOLD. -/
def silent (demand : ChanSet) (q : List Action) : State :=
  { atTime 1004500 demand q with
    ct := { ctUp with demand := demand, entries := ctUp.entries.set 8 { entryUp with record := recordHold } }
    hlk := { HostLink.reset 0 with timeout := 1, silence := 200 } }

/-- Host silence with channel 6 ON and channel 8 OFF: both are OFF, two entries are flushed and no countdown starts; with channel 8 ON it
holds for 200 cycles for each 10 ms of its 100 ms (R58). -/
theorem test_silenceTimeout :
    (let t := after .silenceTimeout (silent 0b000001000000 [revert21, mark22]);
      (t.ct.demand, (t.ct.entries.get 8).countdown, events t)) =
        (0, none, [.queueFlushed .hostSilent 2, .hostSilent .begins]) ∧
    (let t := after .silenceTimeout (silent 0b000100000001 []);
      (t.ct.demand, (t.ct.entries.get 8).countdown)) = (0b000100000000, some 2000) := by decide +kernel

/-- A hold countdown at 0 sets its channel OFF (R59); one above 0 does nothing. -/
theorem test_holdCountdownExpiry :
    ([0, 1].map fun n => (after (.holdCountdownExpiry 8)
        { linkUp with ct := { ctUp with demand := 0xFFF, entries := ctUp.entries.set 8 { entryUp with countdown := some n } } }).ct.demand) =
      [0xEFF, 0xFFF] := by decide +kernel

/-- TABLE 40 at 1,002,000: the MAIN is applied and its REVERT captures 6 OFF, 8 ON. -/
theorem test_atTimeEntriesDue_main :
    (let t := after .atTimeEntriesDue (atTime 1002000 0b000100000000 [main21]);
      (t.ct.demand, t.aq, events t)) = (0b000101000000, [revert21], [.actionApplied 21 .main 0b000101000000]) := by
  decide +kernel

/-- TABLE 41 at 600: tag 5 is applied before tag 6, which captures channel 2 ON. -/
theorem test_atTimeEntriesDue_two :
    (let t := after .atTimeEntriesDue (atTime 600 0
        [⟨5, .main, .atTime 600, 0b0100, 0b0100, some 40⟩, ⟨6, .main, .atTime 600, 0b1100, 0b1000, some 60⟩]);
      (t.ct.demand, t.aq)) =
      (0b1000, [⟨5, .revert, .atTime 640, 0b0100, 0, none⟩, ⟨6, .revert, .atTime 660, 0b1100, 0b0100, none⟩]) := by
  decide +kernel

theorem queue40_sound : QueueSound [revert21, mark22] where
  places := by decide
  tags := by decide
  formed := by
    intro a h
    have h' : a = revert21 ∨ a = mark22 := by simpa using h
    rcases h' with rfl | rfl
    · exact ⟨by decide, by decide, by decide, by decide, by intro d hd; cases hd⟩
    · exact ⟨by decide, by decide, by decide, by decide, by intro d hd; cases hd⟩
  marks_last := by decide

theorem main21_formed : main21.Formed :=
  ⟨by decide, by decide, by decide, by decide, by intro d hd; cases hd; decide⟩

theorem queue21_sound : QueueSound [main21] where
  places := by decide
  tags := by decide
  formed := by
    intro a h
    have h' : a = main21 := by simpa using h
    subst h'
    exact main21_formed
  marks_last := by decide

theorem witness_NstopRecognised : linkUp.runs = true ∧ Level.low ≠ linkUp.ct.nstopPin ∧
    ((stopMoving .low .high 1 []).ct.nstopFilter = true ∧ (stopMoving .low .high 1 []).ct.nstopPin = .low) ∧
    ((stopMoving .high .low 0 []).ct.nstopFilter = true ∧ (stopMoving .high .low 0 []).ct.nstopPin = .high) ∧
    (stopMoving .low .high 1 []).runs = true ∧ linkUp.ct.nstopFilter = false := by decide +kernel
theorem witness_HostSilenceAndHolds_1 : (silent 0 []).runs = true ∧ (silent 0 []).hlk.timeout ≠ 0 ∧
    (silent 0 []).ct.hostSilent = false ∧ 200 * (silent 0 []).hlk.timeout.toNat ≤ (silent 0 []).hlk.silence := by decide +kernel
theorem witness_HostSilenceAndHolds_2 : linkUp.runs = true ∧ linkUp.hlk.timeout = 0 ∧
    ({ ctUp with hostSilent := true } : ChannelTable).hostSilent = true ∧
    ({ (silent 0 []).hlk with silence := 199 } : HostLink).silence < 200 * (silent 0 []).hlk.timeout.toNat := by decide +kernel
theorem witness_HostSilenceAndHolds_3 :
    (({ entryUp with countdown := some 0 } : ChannelEntry).countdown = some 0) ∧ entryUp.countdown ≠ some 0 := by decide

/-- The entries of TABLE 41. -/
def tag5 : Action := ⟨5, .main, .atTime 600, 0b0100, 0b0100, some 40⟩
def tag6 : Action := ⟨6, .main, .atTime 600, 0b1100, 0b1000, some 60⟩

theorem queue41_sound : QueueSound [tag5, tag6] where
  places := by decide
  tags := by decide
  formed := by
    intro a h
    have h' : a = tag5 ∨ a = tag6 := by simpa using h
    rcases h' with rfl | rfl
    · exact ⟨by decide, by decide, by decide, by decide, by intro d hd; cases hd; decide⟩
    · exact ⟨by decide, by decide, by decide, by decide, by intro d hd; cases hd; decide⟩
  marks_last := by decide

theorem witness_DueEntriesApplied : ∃ (s : State) (due : List Action), s.runs = true ∧ QueueSound s.aq ∧
    due = (s.aq.filter fun a => match a.trigger with
      | .atTime d => decide ((s.blc.time - d).toNat < 2147483648)
      | .atMark => false) ∧ due = [] ++ tag5 :: [tag6] ∧ due = [tag5] ++ tag6 :: [] ∧
    (tag5.phase = .main ∧ tag5.revert = some 40) ∧ (tag6.phase = .main ∧ tag6.revert = some 60) ∧
    demandAfter 0 [tag5] = 0b0100 :=
  ⟨atTime 600 0 [tag5, tag6], [tag5, tag6], rfl, queue41_sound, by decide, rfl, rfl, ⟨rfl, rfl⟩, ⟨rfl, rfl⟩, by decide⟩
theorem witness_DueEntriesApplied_none : ∃ s : State, s.runs = true ∧ QueueSound s.aq ∧
    [] = (s.aq.filter fun a => match a.trigger with
      | .atTime d => decide ((s.blc.time - d).toNat < 2147483648)
      | .atMark => false) := ⟨atTime 599 0 [tag5, tag6], rfl, queue41_sound, by decide⟩
/-- The queue of TABLE 41 is in queue order at 599, and so are the REVERT entries that are left at 600. -/
theorem witness_DueEntriesApplied_order : InQueueOrder 599 [tag5, tag6] ∧ InQueueOrder 600 [tag5, tag6] ∧
    InQueueOrder 600 [revertMade tag5 40 600 0, revertMade tag6 60 600 0b0100] := by
  refine ⟨?_, ?_, ?_⟩
  · refine .cons ?_ (List.pairwise_singleton _ _)
    intro b hb m hm
    cases List.mem_singleton.mp hb
    exact ⟨1, by cases hm; decide, by decide⟩
  · refine .cons ?_ (List.pairwise_singleton _ _)
    intro b hb m hm
    cases List.mem_singleton.mp hb
    exact ⟨0, by cases hm; decide, by decide⟩
  · refine .cons ?_ (List.pairwise_singleton _ _)
    intro b hb m hm
    cases List.mem_singleton.mp hb
    exact ⟨40, by cases hm; decide, by decide⟩

/-! ## Mark Capture -/

/-- Mark Capture with the pin low and the filter running. -/
def filtering : MarkCapture := { MarkCapture.reset .high with pin := .low, recogniser := .filtering }

/-- A fall begins the filtering; a rise before its end returns the recogniser to HIGH (R148). -/
theorem test_markFall : (after .markFall linkUp).mc = filtering := by decide +kernel
theorem test_markRise : (after .markRise { linkUp with mc := filtering }).mc = MarkCapture.reset .high := by decide +kernel

/-- While a control reset is held the MARK pin is followed and no edge is recognised (R148, R172). -/
theorem test_mark_held :
    (let s := { linkUp with held := some .pin };
      (after .markFall s == { s with mc := { s.mc with pin := .low } } &&
        after .markRise (after .markFall s) == s)) = true := by decide +kernel

/-- A MARK pulse on channel 4: its entry has a revert delay. -/
def mark23 : Action := ⟨23, .main, .atMark, 0b010000, 0b010000, some 7⟩

/-- TABLE 40 at 1,005,500: the snapshot shows 6 ON, 8 OFF, and then tag 22 is applied; the reverted queue stays. A MARK pulse ends by
itself: its REVERT is due 7 cycles after the edge (R98, R99). -/
theorem test_markFilterExpiry :
    (let t := after .markFilterExpiry { atTime 1005500 0b000001000000 [revert21, mark22] with mc := filtering };
      (t.mc.last.map fun p => (p.number, p.time, p.demand), t.ct.demand, t.aq, events t, t.mc.capture, t.mc.spacing)) =
      (some (0, 1005500, 0b000001000000), 0, [revert21], [.actionApplied 22 .main 0b000001000000], 1, true) ∧
    (let t := after .markFilterExpiry { atTime 50 0 [mark23] with mc := filtering }; (t.ct.demand, t.aq)) =
      (0b010000, [⟨23, .revert, .atTime 57, 0b010000, 0, none⟩]) := by decide +kernel

/-- An edge within the spacing time is ignored (R149). -/
theorem test_markFilterExpiry_spacing :
    (after .markFilterExpiry { linkUp with mc := { filtering with spacing := true } }).mc =
      { filtering with spacing := true, recogniser := .low } := by decide +kernel

/-- The spacing time ends. -/
theorem test_spacingTimerExpiry :
    (after .spacingTimerExpiry { linkUp with mc := { MarkCapture.reset .high with spacing := true } }).mc =
      MarkCapture.reset .high := by decide +kernel

theorem filtering_sound : filtering.Sound true :=
  ⟨by decide, by decide, by decide, by decide⟩

theorem witness_MarkPinEdges_1 : linkUp.runs = true ∧ linkUp.mc.Sound true ∧ linkUp.mc.pin = .high ∧
    linkUp.mc.spacing = false := ⟨rfl, ⟨by decide, by decide, by decide, by decide⟩, rfl, rfl⟩
theorem witness_MarkPinEdges_2 : filtering.Sound true ∧ filtering.pin = .low := ⟨filtering_sound, rfl⟩
theorem witness_MarkPinEdges_3 : ({ filtering with spacing := true } : MarkCapture).Sound true ∧
    ({ filtering with spacing := true } : MarkCapture).spacing = true := ⟨⟨by decide, by decide, by decide, by decide⟩, rfl⟩

theorem queue23_sound : QueueSound [mark23] where
  places := by decide
  tags := by decide
  formed := by
    intro a h
    have h' : a = mark23 := by simpa using h
    subst h'
    exact ⟨by decide, by decide, by decide, by decide, by intro d hd; cases hd; decide⟩
  marks_last := by decide

theorem witness_MarkEdgeCaptured : linkUp.runs = true ∧
    (filtering.recogniser = .filtering ∧ filtering.spacing = false) ∧ ({ filtering with spacing := true } : MarkCapture).spacing = true ∧
    linkUp.mc.recogniser ≠ .filtering ∧ QueueSound [revert21, mark22] ∧ QueueSound [mark23] ∧
    [mark23] = [mark23].filter (fun a => decide (a.trigger = .atMark)) ∧
    [] = [revert21].filter (fun a => decide (a.trigger = .atMark)) ∧
    (mark23.phase = .main ∧ mark23.revert = some 7) :=
  ⟨rfl, ⟨rfl, rfl⟩, rfl, by decide, queue40_sound, queue23_sound, by decide, by decide, rfl, rfl⟩

/-! ## The Host Link -/

/-- A frame's receiver just before the last byte of its CRC. -/
def rxBefore (f : Frame) : Receiver := (Receiver.hunt.feed f.bytes.dropLast).getD Receiver.hunt

/-- The last byte of a frame's CRC. -/
def lastByte (f : Frame) : Byte := f.bytes.getLastD 0

/-- A character on RXD: after a high level, its levels as R157 has them, the stop bit low for a stop-bit error. -/
def line (b : Byte) (stopError : Bool := false) (wasHigh : Bool := true) : RxLine :=
  ⟨wasHigh, if stopError then characterLevels b &&& 0x1FF else characterLevels b⟩

/-- The part with the receiver as given. -/
def receiving (s : State) (r : Receiver) : State := { s with hlk := { s.hlk with rx := r } }

/-- The CRC of the nine characters 1 to 9 under polynomial 1021h, initial value FFFFh, no reflection and no final value is the check
value 29B1h of the CRC catalogues: a value from outside the manual. -/
theorem test_crc : crc16 [0x31, 0x32, 0x33, 0x34, 0x35, 0x36, 0x37, 0x38, 0x39] = 0x29B1 := by decide +kernel

/-- TABLE 60: out of HUNT with C3h, LEN 42, SEQ, KIND, and 42 payload bytes expected; a SOF with a stop-bit error is no SOF. -/
theorem test_characterReceived :
    ((after (.characterReceived (line 0xC3 true)) linkUp).hlk.rx.phase,
      (Receiver.hunt.feed [0xC3, 0x2A, 0x01, 0x55]).map fun r => (r.phase, r.expected, r.gap)) =
      (.hunt, some (.body, 42, true)) ∧
    (after (.characterReceived (line 0xC3)) linkUp).hlk.rx.phase = .header := by decide +kernel

/-- A wrong first byte of the CRC with the right second byte is discarded at the second for CRC (R160). -/
theorem test_wrong_first_crc_byte :
    ((Receiver.hunt.feed ((⟨1, 0x01, []⟩ : Frame).bytes.take 4 ++ [0])).map fun r =>
      r.take ⟨lastByte ⟨1, 0x01, []⟩, false⟩) = some (.discards .crc) := by decide +kernel

/-- "Had the payload byte after C3h been 3Dh (61), the false frame would have been discarded for LENGTH": one RX_ERROR, and the flag
is disarmed; disarmed, a discard raises nothing (R161). -/
theorem test_rxFrameDiscard :
    (let t := after (.rxFrameDiscard (line 0x3D)) (receiving linkUp ⟨.header, [], 3, 0xFFFF, true⟩);
      (t.hlk.rx.phase, t.hlk.errorArmed, events t)) = (.hunt, false, [.rxError .length]) ∧
    events (after (.rxFrameDiscard (line 0 true))
      { linkUp with hlk := { linkUp.hlk with rx := ⟨.check, [], 2, 0, true⟩, errorArmed := false } }) = [] := by decide +kernel

/-- 80h and 01h on the line, by hand from R157: start bit 0, the data bits from the least significant on, stop bit 1. -/
theorem test_characterLevels :
    ((List.range 10).map fun i => (characterLevels 0x80).getLsbD i) =
      [false, false, false, false, false, false, false, false, true, true] ∧
    ((List.range 10).map fun i => (characterLevels 0x01).getLsbD i) =
      [false, true, false, false, false, false, false, false, false, true] ∧
    receivedChar ⟨true, 0b1100000010⟩ = some ⟨0x81, false⟩ ∧ receivedChar ⟨true, 0b0000000010⟩ = some ⟨0x01, true⟩ := by
  decide +kernel

/-- A break yields one character (R157): the frame is discarded, while the line stays low nothing is received, and after a high level
the next start-of-frame byte is. -/
theorem test_break :
    (let t := after (.rxFrameDiscard (line 0 true)) (receiving linkUp ⟨.body, [0x2A, 0x01, 0x55], 42, 0, true⟩);
      let u := after (.characterReceived (line 0 true false)) t;
      let v := after (.characterReceived (line 0xC3)) u;
      (t.hlk.broken, events t, u == t, v.hlk.rx.phase, v.hlk.broken, (after (.characterReceived (line 0xC3 false false)) t) == t)) =
      (true, [.rxError .framing], true, .header, false, true) := by decide +kernel

/-- The last row of TABLE 60: GAP. -/
theorem test_rxGapTimeout :
    (let t := after .rxGapTimeout (receiving linkUp ⟨.body, [0x2A, 0x01, 0x55, 0x00], 41, 0, true⟩);
      (t.hlk.rx.phase, t.hlk.errorArmed, events t)) = (.hunt, false, [.rxError .gap]) := by decide +kernel

/-- A record of TABLE 49 or 50. -/
def rec (n : Nat) (d : Delivery) : ReportRecord := ⟨BitVec.ofNat 16 n, 0, .stop .asserted, d⟩

/-- A Report Unit with the records `a` to `b - 1` in one state after those of another. -/
def unit (from' sent total : Nat) (timer : Option Nat) : ReportUnit :=
  { ReportUnit.reset .power with
    queue := (List.range total).map fun i => rec (from' + i) (if i < sent then .sent else .new)
    next := BitVec.ofNat 16 (from' + total)
    timer := timer }

/-- The records' numbers and states. -/
def records (s : State) : List (Nat × Delivery) := s.ru.queue.map fun r => (r.seq.toNat, r.delivery)

/-- The ACK frame that carries a number. -/
def ackFrame (n : Half) : Frame := ⟨0, 0x60, bytes2 n⟩

/-- TABLE 49 at 12 ms: ACK(104) removes 100 to 103 and restarts the timer; an ACK beyond the window is ignored whole. -/
theorem test_ackFrameReceived :
    (let t := after (.ackFrameReceived (line (lastByte (ackFrame 104)))) { receiving linkUp (rxBefore (ackFrame 104)) with ru := unit 100 8 10 (some 240) };
      (records t, t.ru.timer)) =
      ([(104, .sent), (105, .sent), (106, .sent), (107, .sent), (108, .new), (109, .new)], some 0) ∧
    (after (.ackFrameReceived (line (lastByte (ackFrame 112)))) { receiving linkUp (rxBefore (ackFrame 112)) with ru := unit 104 7 7 (some 5) }).ru =
      unit 104 7 7 (some 5) := by decide +kernel

/-- TABLE 50, steps 4 and 5: ACK(201) makes the OVERFLOW record 232 of 3, and the next loss merges into it. Two free places and a loss of
131,071 make two OVERFLOW records and leave a loss of 1 (R138). -/
theorem test_overflow :
    (let u := ({ unit 200 8 32 (some 7) with loss := 3 }).ack 9 201;
      ((u.queue.length, u.queue.getLast?, u.loss, u.next, u.timer),
        (u.take 10 (.stop .released)).queue.getLast?.map ReportRecord.event)) =
      ((32, some ⟨232, 9, .overflow 3, .new⟩, 0, 233, some 0), some (.overflow 4)) ∧
    (let u := ({ unit 200 8 32 (some 7) with loss := 131071 }).ack 9 202; (u.queue.drop 30, u.loss, u.next)) =
      ([⟨232, 9, .overflow 65535, .new⟩, ⟨233, 9, .overflow 65535, .new⟩], 1, 234) := by decide +kernel

/-- A PING frame with a SEQ. -/
def pingFrame (seq : Byte) : Frame := ⟨seq, 0x01, []⟩

/-- TABLE 61 at 7 ms: SEQ 14 finds four frames, raises RX_ERROR (DROPPED) and is answered with a BUSY notice. -/
theorem test_commandFrameReceived :
    (let t := after (.commandFrameReceived (line (lastByte (pingFrame 14))))
        { receiving linkUp (rxBefore (pingFrame 14)) with
          hlk := { linkUp.hlk with rx := rxBefore (pingFrame 14), inbound := [pingFrame 10, pingFrame 11, pingFrame 12, pingFrame 13] } };
      (t.hlk.inbound.map Frame.seq, t.hlk.responses.map TxFrame.frame, events t)) =
      ([10, 11, 12, 13], [⟨14, 0xEF, [0x03, 0x01]⟩], [.rxError .dropped]) ∧
    (after (.commandFrameReceived (line (lastByte (pingFrame 14)))) (receiving linkUp (rxBefore (pingFrame 14)))).hlk.inbound =
      [pingFrame 14] := by decide +kernel

/-! ## The Command Engine -/

/-- The part with the frame at the head of the inbound queue, the Command Engine IDLE and nothing else queued. -/
def given (s : State) (f : Frame) : State :=
  { s with
    held := none
    ce := CommandEngine.reset
    hlk := { s.hlk with inbound := [f], responses := [] }
    ct := { s.ct with hostSilent := false } }

theorem given_takes (s : State) (f : Frame) : (given s f).Takes f :=
  ⟨rfl, rfl, Nat.zero_lt_succ 3, rfl, rfl, by intro _ h; cases h⟩

/-- The part with a row's own frame at the head of the inbound queue. -/
def asked (c : Instr) (s : State) : State :=
  match commandRow c with
  | some f => given s f
  | none => s

/-- The payload of the response to a row's command. -/
def reply (c : Instr) (s : State) : List Byte :=
  ((after c (asked c s)).hlk.responses.getLast?.map fun t => t.frame.payload).getD []

/-- TABLE 61 at 9 ms: the repeated SEQ 10 is answered with a copy from the cache; a KIND that names no command with BAD_KIND (10h) under
KIND D5h, and an ACK's KIND in the queue under FFh (R158, R176). -/
theorem test_commandTaken :
    ((after .commandTaken { given linkUp (pingFrame 10) with
        ce := ⟨.idle, some ⟨10, (pingFrame 10).crc, ⟨10, 0x81, [0x77]⟩⟩⟩ }).hlk.responses.map TxFrame.frame =
      [⟨10, 0x81, [0x77]⟩]) ∧
    ((after .commandTaken (given linkUp ⟨3, 0x55, []⟩)).hlk.responses.map TxFrame.frame = [⟨3, 0xD5, [0x10]⟩]) ∧
    ((after .commandTaken (given linkUp ⟨3, 0x90, []⟩)).hlk.responses.map TxFrame.frame = [⟨3, 0xFF, [0x10]⟩]) := by
  decide +kernel

/-- PING at part time 66051 (010203h) after a control reset of cause POWER; the revision letter, byte 3, is free (TABLE 71). -/
theorem test_ping :
    (let r := reply (.ping 5) { linkUp with blc := { blcUp with time := 66051 } }; (r.take 3, r.drop 4)) =
      ([0x00, 0x0B, 0x0C], [0, 0x00, 0x01, 0x02, 0x03, 0x01]) := by decide +kernel

/-- READ_STATUS (TABLE 71): UP, ACTIVE, NORMAL, and one record of the ten in every state. -/
theorem test_readStatus :
    reply (.readStatus 5) { linkUp with ru := { unit 100 8 10 (some 0) with loss := 258 } } =
      [0, 1, 0, 1, 2, 0x08, 0, 0, 0, 0, 0, 0, 0, 2, 8, 0, 0, 0, 1, 2, 0, 110] := by decide +kernel

/-- TABLE 45 step 3: SET_OUTPUTS with mask 9, 9 OFF is answered with the locked set of 9 and the link flag; a mask bit 12 is BAD_VALUE. -/
theorem test_setOutputs :
    (let s := { linkUp with
        ct := { ctUp with demand := 0xFFF, entries := ctUp.entries.set 9 { entryUp with mirror := status45 } } };
      (reply (.setOutputs 1 0x0200 0) s, (after (.setOutputs 1 0x0200 0) (asked (.setOutputs 1 0x0200 0) s)).ct.demand,
        reply (.setOutputs 1 0x1000 0) s)) = ([0, 0x02, 0x00, 1], 0xDFF, [0x12]) := by decide +kernel

/-- TABLE 40 at 1,000,000: QUEUE_ACTION of tag 21 is answered with its due time 000F4A10h, one entry and one reservation. -/
theorem test_queueAction :
    (let c := Instr.queueAction 1 21 0 2000 0x0140 0x0140 4000;
      let s := atTime 1000000 0 [];
      (reply c s, (after c (asked c s)).aq)) = ([0, 0, 0x00, 0x0F, 0x4A, 0x10, 1, 1], [main21]) := by decide +kernel

/-- A tag of 0 is BAD_VALUE, a tag in the queue DUPLICATE_TAG, and NSTOP comes before both queue tests (R94). -/
theorem test_queueAction_refused :
    [reply (.queueAction 1 0 1 0 1 1 0) linkUp, reply (.queueAction 1 21 1 0 1 1 0) (atTime 5 0 [main21]),
      reply (.queueAction 1 21 1 0 1 1 0) (stopMoving .low .low 0 [])] = [[0x12], [0x22], [0x20]] := by decide +kernel

/-- TABLE 75 at 51,000: the REVERT of tag 40 is cancelled: phase REVERT, one place freed; then the tag is NOT_FOUND. -/
theorem test_cancelAction :
    (reply (.cancelAction 1 40) (atTime 51000 0 [⟨40, .revert, .atTime 52400, 0x400, 0, none⟩]), reply (.cancelAction 1 40) linkUp) =
      ([0, 1, 1], [0x23]) := by decide +kernel

/-- TABLE 64: the descriptor of tag 21: due 000F4A10h, type 0, revert delay FA0h, channel code 38F4h; of its REVERT, type 2, revert
delay 0 and code 13,851 (361Bh). -/
theorem test_listActions :
    (reply (.listActions 1 0) (atTime 1000000 0 [main21]), reply (.listActions 1 0) (atTime 1002000 0 [revert21])) =
      ([0, 0x00, 0x0F, 0x42, 0x40, 1, 1, 0, 0x15, 0x00, 0x0F, 0x4A, 0x10, 0x00, 0xFA, 0x00, 0x38, 0xF4],
        [0, 0x00, 0x0F, 0x4A, 0x10, 1, 0, 0, 0x15, 0x00, 0x0F, 0x59, 0xB0, 0x80, 0x00, 0x00, 0x36, 0x1B]) := by decide +kernel

/-- The bytes of a record: HIGH, 10 ms, 500 ms, budget 15, 40 mA, 20 ms, every enable and HOLD, 1,000 ms. -/
def recordBytes : RecordBytes := ⟨2, 1, 50, 15, 2, 3, 0x0F, 100⟩

/-- TABLE 20, c0: CONFIGURE_CHANNEL for channel 5 advances 3 to 4, sets pending and waits; with the link LOST it ends with PENDING. -/
theorem test_configureChannel :
    (let c := Instr.configureChannel 10 0x0020 recordBytes;
      let s := { linkUp with ct := { ctUp with entries := ctUp.entries.set 5 (entryAt 3 0 (some 3)) } };
      let t := after c (asked c s);
      ((t.ct.entries.get 5).generation, (t.ct.entries.get 5).pending, (t.ct.entries.get 5).record.holdTime,
        t.ce.engine, reply c { s with blc := { blcUp with link := .lost, misses := 4 } })) =
      (4, true, 100, .waiting ⟨configureChannelFrame 10 0x0020 recordBytes, .confirmation 0x020, 0⟩, [1, 0x00, 0x20]) := by
  decide +kernel

/-- A hold time of 0 is BAD_VALUE (R185). -/
theorem test_configureChannel_refused :
    reply (.configureChannel 10 0x0020 { recordBytes with holdTime := 0 }) linkUp = [0x12] := by decide +kernel

/-- READ_CHANNEL (TABLE 72) of channel 9 at TABLE 45 step 5: the default record, generation 0 applied, LOCKED, token 2 and echo 1. -/
theorem test_readChannel :
    reply (.readChannel 1 9) { linkUp with
        ct := { ctUp with
          demand := 0x200
          entries := ctUp.entries.set 9 { entryUp with token := 2, mirror := { status45 with token := 1 } } } } =
      [0, 9, 1, 0, 10, 3, 1, 2, 0x05, 10, 0, 0, 5, 0, 0x02, 0, 0, 1, 0, 0, 0, 0x19, 0, 0] := by decide +kernel

/-- TABLE 45, step 1: the latch of a present condition stays and is listed, the token advances, and the command waits. -/
theorem test_clearFaults_present :
    (let c := Instr.clearFaults 1 0x0200 0x02 1;
      let s := { linkUp with
        ct := { ctUp with
          entries := ctUp.entries.set 9 { entryUp with mirror := status45, latched := ⟨false, true, false, false, false⟩ } } };
      let t := after c (asked c s);
      ((t.ct.entries.get 9).latched.overtemp, (t.ct.entries.get 9).token, events t, t.hlk.responses.length)) =
      (true, 1, [], 0) := by decide +kernel

/-- TABLE 45, step 5: the condition absent, the latch is cleared and FAULT_CLEARED raised; the token goes to 2. -/
theorem test_clearFaults_absent :
    (let c := Instr.clearFaults 1 0x0200 0x02 1;
      let s := { linkUp with
        ct := { ctUp with
          entries := ctUp.entries.set 9 { entryUp with
            token := 1
            mirror := { status45 with conditions := PerKind.all false, token := 1 }
            latched := ⟨false, true, false, false, false⟩ } } };
      let t := after c (asked c s);
      ((t.ct.entries.get 9).latched.overtemp, (t.ct.entries.get 9).token, events t)) =
      (false, 2, [.faultCleared 9 .overtemp]) := by decide +kernel

/-- SET_FILTER with a mandatory kind, bit 0, is BAD_VALUE; with kinds 1 and 14 and NONE it is answered OK (R189). -/
theorem test_setFilter :
    (reply (.setFilter 1 7 1 0x0001 0x8FFF 1) linkUp, reply (.setFilter 1 7 1 0x4002 0x8FFF 1) linkUp,
      reply (.setFilter 1 8 1 0x4002 0x8FFF 1) linkUp) = ([0x12], [0], [0x12]) := by decide +kernel

/-- READ_FILTER returns the entry in the encoding of SET_FILTER, with its match count, and clears the count (R132, R190). -/
theorem test_readFilter :
    (let s := { linkUp with
        ru := { ReportUnit.reset .power with
          filter := (ReportUnit.reset .power).filter.set 7 ⟨true, 0x4002, 0xFFF, true, .count, 772⟩ } };
      (reply (.readFilter 1 7 1) s, ((after (.readFilter 1 7 1) (asked (.readFilter 1 7 1) s)).ru.filter.get 7).count)) =
      ([0, 7, 1, 0x40, 0x02, 0x8F, 0xFF, 1, 3, 4], 0) := by decide +kernel

/-- Mark Capture of TABLE 54 at 320 µs: snapshot 43 stands with count 2. -/
def snapshot43 : Snapshot := ⟨43, 6, 2, .up, .normal, 0x801, Table.all .off, Table.all (PerKind.all false)⟩
def mark54 : MarkCapture := { MarkCapture.reset .high with capture := 44, last := some snapshot43, auto := true, slot := some snapshot43, overwrites := 2 }

/-- "A READ_SNAPSHOT taken at 400 µs would have returned snapshot 43 with a count of 2"; with none it is UNAVAILABLE. -/
theorem test_readSnapshot :
    (reply (.readSnapshot 1) { linkUp with mc := mark54 }).take 12 = [0, 0, 43, 0, 0, 0, 6, 2, 1, 2, 0x08, 0x01] ∧
      (reply (.readSnapshot 1) { linkUp with mc := mark54 }).length = 36 ∧ reply (.readSnapshot 1) linkUp = [0x24] := by
  decide +kernel

/-- SET_MODE turns automatic reporting off: the slot is emptied and the overwrite count is 0 (R152). -/
theorem test_setMode :
    (let t := after (.setMode 1 20 0) (asked (.setMode 1 20 0) { linkUp with mc := mark54 });
      (t.mc.slot, t.mc.overwrites, t.mc.last, t.hlk.timeout, t.hlk.silence)) = (none, 0, some snapshot43, 20, 0) := by
  decide +kernel

/-- SOFT_RESET places its response and enters RESETTING (R173). -/
theorem test_softReset :
    (let t := after (.softReset 1) (asked (.softReset 1) linkUp); (t.hlk.responses, t.ce.engine)) =
      ([⟨⟨1, 0xFF, [0]⟩, true⟩], .resetting) := by decide +kernel

/-- After 400 advances the wait ends with TIMEOUT and the channels that are pending (R166); after 399 it goes on. -/
theorem test_waitTimerExpiry :
    ((after .waitTimerExpiry { waiting with ce := ⟨.waiting ⟨⟨10, 0x20, []⟩, .confirmation 0x021, 400⟩, none⟩ }).hlk.responses.map
        TxFrame.frame = [⟨10, 0xA0, [2, 0x00, 0x20]⟩]) ∧ (after .waitTimerExpiry waiting).hlk.responses = [] := by decide +kernel

/-- TABLE 49 at 62 ms: the go-back. -/
theorem test_retransmissionTimerExpiry :
    (let t := after .retransmissionTimerExpiry { linkUp with ru := unit 104 7 7 (some 1000) }; (records t, t.ru.timer)) =
      ([(104, .resend), (105, .resend), (106, .resend), (107, .resend), (108, .resend), (109, .resend), (110, .resend)], none) := by
  decide +kernel

/-- The head of the response queue goes to TXD, and the arbiter takes nothing while TXD is busy (R169). -/
theorem test_responseTakenForTransmission :
    (let r : TxFrame := ⟨⟨10, 0x81, [0]⟩, false⟩;
      let t := after .responseTakenForTransmission { linkUp with hlk := { linkUp.hlk with responses := [r, r] } };
      (t.onTxd, t.hlk.responses.length, (after .responseTakenForTransmission t).hlk.responses.length)) =
      (some ⟨10, 0x81, [0]⟩, 1, 1) := by decide +kernel

/-- TABLE 54 at 600 µs: SNAPSHOT 43 is formed with count 2, the slot is emptied and the count is 0. -/
theorem test_snapshotFrameFormed :
    (let t := after .snapshotFrameFormed { linkUp with mc := mark54 };
      (t.mc.slot, t.mc.overwrites, t.hlk.unsolicited)) = (none, 0, 1) ∧
    ((after .snapshotFrameFormed { linkUp with mc := mark54 }).onTxd.map fun f =>
      (f.kind, f.payload.take 7, f.payload.length)) = some (0xE1, [0, 43, 0, 0, 0, 6, 2], 35) := by decide +kernel

/-- TABLE 49 at 12 ms: F3 is formed with 108 and 109; the timer goes on. -/
theorem test_reportFrameFormed :
    (let t := after .reportFrameFormed { linkUp with ru := unit 104 4 6 (some 3) };
      (records t, t.ru.timer, t.onTxd.map (fun f => (f.kind, f.payload.take 3, f.payload.length)))) =
      ([(104, .sent), (105, .sent), (106, .sent), (107, .sent), (108, .sent), (109, .sent)], some 3,
        some (0xE0, [2, 0, 108], 25)) := by decide +kernel

/-- A CLEAR_FAULTS that places its response and raises FAULT_CLEARED with TXD idle leaves either frame to go first; the other follows
(R169). Without that moment a REPORT waits for the response. -/
theorem test_reportFrameFormed_tie :
    (let c := Instr.clearFaults 1 0x0200 0x02 0;
      let s := { linkUp with
        ct := { ctUp with entries := ctUp.entries.set 9 { entryUp with latched := ⟨false, true, false, false, false⟩ } } };
      let t := after c (asked c s);
      let r := after .reportFrameFormed t;
      let w := after .responseTakenForTransmission (after (.transmissionComplete 0) r);
      (t.hlk.tie, r.onTxd.map Frame.kind, r.hlk.tie, w.onTxd.map Frame.kind,
        (after .responseTakenForTransmission t).onTxd.map Frame.kind,
        after .reportFrameFormed { t with hlk := { t.hlk with tie := false } } == { t with hlk := { t.hlk with tie := false } })) =
      (true, some 0xE0, false, some 0xA2, some 0xA2, true) := by decide +kernel

/-- The end of a SOFT_RESET response is a control reset of cause COMMAND: START with detail COMMAND, part time 0 (R139, R173). -/
theorem test_transmissionComplete :
    (let t := after (.transmissionComplete 2) { atTime 99 5 [mark22] with
        hlk := { linkUp.hlk with txd := .sending ⟨⟨1, 0xFF, [0]⟩, true⟩ } };
      (events t, t.blc.time, t.ct.demand, t.aq, t.hlk.rate, t.hlk.txd)) = ([.start .command], 0, 0, [], 2, .quiet) := by
  decide +kernel

/-- A control reset is held: NALERT is asserted, TXD is high and the logic side takes nothing (R172). -/
theorem test_controlResetStart :
    (let t := after (.controlResetStart .pin) { linkUp with hlk := { linkUp.hlk with txd := .sending ⟨⟨1, 0x81, [0]⟩, false⟩ } };
      (t.nalert, t.onTxd, (after (.barrierCycleStart []) t).blc.time)) = (true, none, 0) := by decide +kernel

/-- VL out of its range at any time during the reset makes its cause POWER (R172); the recognised NSTOP level is HIGH and the filter
runs from a low pin (R54). -/
theorem test_controlResetEnd :
    (let t := after (.controlResetEnd 1) (after (.controlResetStart .pin) (after (.controlResetStart .power)
        (stopMoving .low .low 0 [])));
      (t.lastCause, events t, t.ct.nstop, t.ct.nstopFilter, t.held)) = (.power, [.start .power], .high, true, none) := by
  decide +kernel

/-- The quiet time ends (R172). -/
theorem test_quietTimeExpiry : (after .quietTimeExpiry State.reset).hlk.txd = .idle := by decide +kernel

/-- A step takes the commands waiting in order. -/
theorem test_step :
    (match step { linkUp with pending := [.markFall, .markRise] } with
      | .next t => (t.mc.recogniser, t.pending)
      | .fault _ => (.high, [])
      | .refused _ => (.high, [])) = (.filtering, [.markRise]) := by decide +kernel

/-! ### Witnesses: the Host Link -/

/-- A frame of the longest payload. -/
def longest : Frame := ⟨1, 0x10, List.replicate 60 0xC3⟩

theorem witness_ReceiverAssemblesEveryFrame : longest.payload.length ≤ 60 ∧ (pingFrame 1).payload.length ≤ 60 ∧
    (0 : Byte) ≠ (pingFrame 1).bytes.getLastD 0 ∧ (⟨.check, [], 2, 0, true⟩ : Receiver).phase ≠ .hunt ∧
    (Receiver.hunt.feed longest.bytes.dropLast).isSome = true ∧
    (0 : Byte) ++ lastByte (pingFrame 1) ≠ (pingFrame 1).crc ∧ (0 : Byte) ++ (0 : Byte) ≠ (pingFrame 1).crc ∧ (60 : Byte).toNat ≤ 60 ∧ 60 < (61 : Byte).toNat ∧
    (0xC2 : Byte) ≠ 0xC3 := by decide +kernel

/-- The receiver in HEADER, with LEN expected. -/
def atLen : Receiver := ⟨.header, [], 3, 0xFFFF, true⟩

theorem witness_CharactersAtTheReceiver : (receiving linkUp atLen).runs = true ∧
    (receiving linkUp atLen).hlk.receives (line 60) = some ⟨60, false⟩ ∧
    (receiving linkUp atLen).hlk.rx.take ⟨60, false⟩ = .goesOn ⟨.header, [60], 2, crcByte 0xFFFF 60, true⟩ ∧
    (receiving linkUp atLen).hlk.receives (line 61) = some ⟨61, false⟩ ∧
    (receiving linkUp atLen).hlk.rx.take ⟨61, false⟩ = .discards .length ∧
    (receiving linkUp atLen).hlk.receives (line 0 true) = some ⟨0, true⟩ ∧
    (receiving linkUp atLen).hlk.rx.take ⟨0, true⟩ = .discards .framing ∧
    (receiving linkUp (rxBefore (pingFrame 14))).hlk.receives (line (lastByte (pingFrame 14))) =
      some ⟨lastByte (pingFrame 14), false⟩ ∧
    (rxBefore (pingFrame 14)).take ⟨lastByte (pingFrame 14), false⟩ = .valid (pingFrame 14) ∧
    ((pingFrame 14).kind ≠ 0x60 ∧ (ackFrame 104).kind = 0x60 ∧
      (rxBefore (ackFrame 104)).take ⟨lastByte (ackFrame 104), false⟩ = .valid (ackFrame 104)) ∧
    (receiving linkUp atLen).hlk.rx.gap = true ∧ linkUp.hlk.rx.gap = false := by decide +kernel
theorem witness_CharactersAtTheReceiver_none : linkUp.hlk.receives ⟨true, 0x247⟩ = none ∧
    (0x247 : BitVec 10).getLsbD 0 = true ∧ ({ linkUp.hlk with broken := true } : HostLink).receives (line 0 true false) = none ∧
    ({ linkUp.hlk with broken := true } : HostLink).receives (line 0xC3) = some ⟨0xC3, false⟩ := by decide +kernel

/-- Host silence in force. -/
def inSilence : State := { linkUp with ct := { ctUp with hostSilent := true }, hlk := { linkUp.hlk with timeout := 1, silence := 200 } }

theorem witness_AckFrameReceived : ∃ s s' : State, ∃ b b' : Byte, ∃ f f' : Frame,
    (s.runs = true ∧ s.hlk.receives (line b) = some ⟨b, false⟩ ∧ s.hlk.rx.take ⟨b, false⟩ = .valid f ∧ f.kind = 0x60 ∧
      f.payload = [0, 104] ∧ s.ct.hostSilent = false) ∧
    (s'.runs = true ∧ s'.hlk.receives (line b') = some ⟨b', false⟩ ∧ s'.hlk.rx.take ⟨b', false⟩ = .valid f' ∧ f'.kind = 0x60 ∧
      f'.payload.length ≠ 2 ∧ s'.ct.hostSilent = true) :=
  ⟨receiving linkUp (rxBefore (ackFrame 104)), receiving inSilence (rxBefore ⟨0, 0x60, [1, 2, 3]⟩), lastByte (ackFrame 104),
    lastByte ⟨0, 0x60, [1, 2, 3]⟩, ackFrame 104, ⟨0, 0x60, [1, 2, 3]⟩, by decide +kernel⟩

/-- The distance of an ACK's number, as the statement has it. -/
def distance (u : ReportUnit) (n : Half) : Nat :=
  (n - (match u.queue with
    | [] => u.next
    | r :: _ => r.seq)).toNat

theorem unit_sound (a s t : Nat) (h : (a, s, t) = (100, 8, 10) ∨ (a, s, t) = (104, 4, 6)) :
    (unit a s t (some 3)).Sound := by
  rcases h with h | h <;> cases h <;> refine ⟨by decide, by decide +kernel, by decide, by decide +kernel, by decide +kernel,
    by decide +kernel, by intro n hn; cases hn; decide, ?_⟩
  · intro r hr n hn
    have h : ∀ r ∈ (unit 100 8 10 (some 3)).queue, r.event = .stop .asserted := by decide +kernel
    rw [h r hr] at hn
    cases hn
  · intro r hr n hn
    have h : ∀ r ∈ (unit 104 4 6 (some 3)).queue, r.event = .stop .asserted := by decide +kernel
    rw [h r hr] at hn
    cases hn

theorem witness_AckTaken_1 : distance (unit 100 8 10 (some 3)) 100 = 0 ∧ (unit 100 8 10 (some 3)).queue.length = 10 ∧
    (1 ≤ distance (unit 100 8 10 (some 3)) 108 ∧ distance (unit 100 8 10 (some 3)) 108 ≤ 10 ∧
      ∀ r ∈ (unit 100 8 10 (some 3)).queue.take 8, r.delivery ≠ .new) ∧
    (unit 100 8 10 (some 3)).loss = 0 ∧
    (distance (unit 100 8 10 (some 3)) 109 ≤ 10 ∧ ∃ r ∈ (unit 100 8 10 (some 3)).queue.take 9, r.delivery = .new) ∧
    10 < distance (unit 100 8 10 (some 3)) 111 ∧ 10 < distance (unit 100 8 10 (some 3)) 99 := by decide +kernel
theorem witness_AckTaken_2 : (unit 100 8 10 (some 3)).Sound := unit_sound 100 8 10 (.inl rfl)
/-- A full queue of which an ACK removes two records: a loss of up to 65535 leaves one OVERFLOW record, one of 65536 or more two, and
one above 131070 leaves the rest pending. -/
theorem witness_AckTaken_3 : ∀ n ∈ [0, 1, 65535, 65536, 131070, 131071], ∃ u : ReportUnit, u.loss = n ∧ u.queue.length = 32 ∧
    distance u 202 = 2 ∧ (∀ r ∈ u.queue.take 2, r.delivery ≠ .new) ∧
    (n, min ((u.loss + 65534) / 65535) (32 - (32 - 2)), u.loss - 65535 * min ((u.loss + 65534) / 65535) (32 - (32 - 2))) ∈
      [(0, 0, 0), (1, 1, 0), (65535, 1, 0), (65536, 2, 0), (131070, 2, 0), (131071, 2, 1)] :=
  have h : (unit 200 8 32 (some 7)).queue.length = 32 ∧ distance (unit 200 8 32 (some 7)) 202 = 2 ∧
      ∀ r ∈ (unit 200 8 32 (some 7)).queue.take 2, r.delivery ≠ .new := by decide +kernel
  fun n hn => ⟨{ unit 200 8 32 (some 7) with loss := n }, rfl, h.1, h.2.1, h.2.2, by revert n; decide⟩
theorem witness_AckTaken_4 : (∀ l, Instr.markFall ≠ .ackFrameReceived l) ∧ (∀ p, Instr.markFall ≠ .controlResetEnd p) ∧
    (∀ p, Instr.markFall ≠ .transmissionComplete p) ∧ exec .markFall linkUp = .next (after .markFall linkUp) :=
  ⟨nofun, nofun, nofun, rfl⟩
theorem witness_AckTaken_5 : ∃ s : State, (∀ l, Instr.transmissionComplete 0 ≠ .ackFrameReceived l) ∧
    (∀ p, Instr.transmissionComplete 0 ≠ .controlResetEnd p) ∧
    (∀ p f, Instr.transmissionComplete 0 = .transmissionComplete p → s.hlk.txd ≠ .sending ⟨f, true⟩) ∧
    exec (.transmissionComplete 0) s = .next { s with hlk := { s.hlk with txd := .idle } } :=
  ⟨{ linkUp with hlk := { linkUp.hlk with txd := .sending ⟨pingFrame 1, false⟩ } }, nofun, nofun, nofun, rfl⟩

/-- Three frames in the inbound queue. -/
def three : List Frame := [pingFrame 10, pingFrame 11, pingFrame 12]

theorem witness_CommandFrameReceived : ∃ s s' : State, ∃ b : Byte, ∃ f : Frame,
    (s.runs = true ∧ s.hlk.receives (line b) = some ⟨b, false⟩ ∧ s.hlk.rx.take ⟨b, false⟩ = .valid f ∧ f.kind ≠ 0x60 ∧
      s.hlk.inbound.length = 3) ∧
    (s'.runs = true ∧ s'.hlk.receives (line b) = some ⟨b, false⟩ ∧ s'.hlk.rx.take ⟨b, false⟩ = .valid f ∧
      s'.hlk.inbound.length = 4 ∧ s'.ct.hostSilent = true) :=
  ⟨{ linkUp with hlk := { linkUp.hlk with rx := rxBefore (pingFrame 14), inbound := three } },
    { inSilence with hlk := { inSilence.hlk with rx := rxBefore (pingFrame 14), inbound := pingFrame 9 :: three } },
    lastByte (pingFrame 14), pingFrame 14, by decide +kernel⟩

theorem witness_TransmitArbiter : linkUp.runs = true ∧ linkUp.hlk.txd = .idle ∧ linkUp.hlk.responses = [] ∧
    (({ linkUp.hlk with responses := [⟨pingFrame 1, false⟩] } : HostLink).responses = ⟨pingFrame 1, false⟩ :: [] ∧
      linkUp.hlk.tie = false) ∧
    mark54.slot = some snapshot43 ∧ linkUp.mc.slot = none ∧ (State.reset.hlk.txd = .quiet ∧ State.reset.hlk.txd ≠ .idle) ∧
    ({ linkUp.hlk with txd := .sending ⟨pingFrame 1, true⟩ } : HostLink).txd = .sending ⟨pingFrame 1, true⟩ ∧
    (∀ x, State.reset.hlk.txd ≠ .sending x) ∧ linkUp.hlk.txd ≠ .quiet :=
  ⟨rfl, rfl, rfl, ⟨rfl, rfl⟩, rfl, rfl, by decide, rfl, nofun, by decide⟩
/-- A moment that places a response and offers a REPORT frame, and one that places a response alone. -/
theorem witness_TransmitArbiter_tie :
    (({ linkUp with hlk := { linkUp.hlk with responses := [⟨pingFrame 1, false⟩] }, ru := unit 104 4 6 (some 3) } : State).tiedFrom
      linkUp).hlk.tie = true ∧
    (({ linkUp with hlk := { linkUp.hlk with responses := [⟨pingFrame 1, false⟩] } } : State).tiedFrom linkUp).hlk.tie = false := by
  decide +kernel

/-! ### Witnesses: the Report Unit -/

/-- A Report Unit whose filter entries 2 and 5 choose RX_ERROR (kind 14). -/
def filtered : ReportUnit :=
  { unit 200 8 32 (some 7) with
    filter := ((ReportUnit.reset .power).filter.set 2 ⟨true, 0x4000, 0, true, .count, 65535⟩).set 5 ⟨true, 0x4000, 0, true, .drop, 0⟩ }

/-- The entry chooses the event, as the statement has it. -/
def chosen (u : ReportUnit) (e : Event) (i : Fin 8) : Bool :=
  (u.filter.get i).enabled && (u.filter.get i).kinds.getLsbD e.code &&
    match e.channel with
    | some c => (u.filter.get i).channels.getLsbD c.val
    | none => (u.filter.get i).noChannel

theorem witness_EventRouting : (Event.stop .asserted).mandatory = true ∧ (Event.rxError .crc).mandatory = false ∧
    (chosen filtered (.rxError .crc) 2 = true ∧ ∀ j < (2 : Fin 8), chosen filtered (.rxError .crc) j = false) ∧
    (filtered.filter.get 2).action = .count ∧ (filtered.filter.get 5).action = .drop ∧
    (∀ i, chosen filtered (.unlocked 3) i = false) ∧ 32 ≤ filtered.queue.length ∧ linkUp.ru.queue.length < 32 := by decide +kernel
theorem witness_EventRouting_full : ∃ u : ReportUnit, ∃ front : List ReportRecord,
    32 ≤ u.queue.length ∧ u.queue = front ++ [⟨232, 9, .overflow 65534, .new⟩] ∧ 65534 < 65535 :=
  ⟨{ filtered with queue := (unit 200 8 32 none).queue ++ [⟨232, 9, .overflow 65534, .new⟩] }, (unit 200 8 32 none).queue,
    by decide +kernel, rfl, by decide⟩
theorem witness_EventRouting_loss : 32 ≤ filtered.queue.length ∧
    ∀ r, filtered.queue.getLast? = some r → ∀ n < 65535, r.event = .overflow n → r.delivery ≠ .new := by
  have h : filtered.queue.getLast? = some (rec 231 .new) := by decide +kernel
  refine ⟨by decide +kernel, ?_⟩
  intro r hr n _ he
  rw [h] at hr
  cases hr
  cases he

theorem witness_ReportsSentAndSentAgain : ∃ (s : State) (sent n : Nat), s.runs = true ∧ s.ru.Sound ∧
    sent = s.ru.queue.countP (fun r => decide (r.delivery = .sent)) ∧
    n = min 4 (min (s.ru.queue.length - sent) (8 - sent)) ∧ s.hlk.txd = .idle ∧ s.hlk.responses = [] ∧ s.mc.slot = none ∧ 0 < n :=
  ⟨{ linkUp with ru := unit 104 4 6 (some 3) }, 4, 2, rfl, unit_sound 104 4 6 (.inr rfl), by decide +kernel⟩
/-- A response that came with the REPORT frame waits, and the REPORT may go first. -/
theorem witness_ReportsSentAndSentAgain_tie : ∃ (s : State) (sent n : Nat), s.runs = true ∧ s.ru.Sound ∧
    sent = s.ru.queue.countP (fun r => decide (r.delivery = .sent)) ∧
    n = min 4 (min (s.ru.queue.length - sent) (8 - sent)) ∧ s.hlk.txd = .idle ∧ s.hlk.responses ≠ [] ∧ s.hlk.tie = true ∧
    s.mc.slot = none ∧ 0 < n :=
  ⟨{ linkUp with
      ru := unit 104 4 6 (some 3)
      hlk := { linkUp.hlk with responses := [⟨pingFrame 1, false⟩], tie := true } },
    4, 2, rfl, unit_sound 104 4 6 (.inr rfl), by decide +kernel⟩
theorem witness_ReportsSentAndSentAgain_none : ∃ (s : State) (sent n : Nat), s.runs = true ∧ s.ru.Sound ∧
    sent = s.ru.queue.countP (fun r => decide (r.delivery = .sent)) ∧
    n = min 4 (min (s.ru.queue.length - sent) (8 - sent)) ∧ n = 0 ∧ s.ru.timer ≠ some 1000 :=
  ⟨{ linkUp with ru := unit 100 8 10 (some 3) }, 8, 0, rfl, unit_sound 100 8 10 (.inl rfl), by decide +kernel⟩
theorem witness_ReportsSentAndSentAgain_due : ({ linkUp with ru := unit 104 7 7 (some 1000) } : State).ru.timer = some 1000 :=
  rfl

/-! ### Witnesses: the Command Engine -/

theorem witness_CommandTaken : linkUp.runs = true ∧ linkUp.hlk.inbound = [] ∧ waiting.ce.engine ≠ .idle ∧
    ((given linkUp (pingFrame 1)).ce.engine = .idle ∧ (given linkUp (pingFrame 1)).hlk.responses.length < 4 ∧
      (given linkUp (pingFrame 1)).hlk.inbound ≠ []) ∧
    ({ ctUp with hostSilent := true } : ChannelTable).hostSilent = true ∧
    (∃ s : State, s.runs = true ∧ s.ce.engine = .idle ∧ s.hlk.responses.length < 4 ∧ s.hlk.inbound ≠ [] ∧ s.ct.hostSilent = true ∧
      (after .commandTaken s).hlk.tie = true) ∧
    (∃ r : Frame, (⟨.idle, some ⟨1, (pingFrame 1).crc, r⟩⟩ : CommandEngine).cache = some ⟨(pingFrame 1).seq, (pingFrame 1).crc, r⟩) ∧
    (given linkUp ⟨3, 0x55, []⟩).Takes ⟨3, 0x55, []⟩ ∧ CommandKind.ofCode 0x55 = none ∧
    (given linkUp ⟨3, 0x01, [0]⟩).Takes ⟨3, 0x01, [0]⟩ ∧ CommandKind.ofCode 0x01 = some .ping ∧
    (given linkUp ⟨3, 0x12, [0]⟩).Takes ⟨3, 0x12, [0]⟩ ∧ fieldsOf .cancelAction [0] = none :=
  ⟨rfl, rfl, by decide, by decide, rfl,
    ⟨{ given linkUp (pingFrame 1) with ct := { ctUp with hostSilent := true } }, rfl, rfl, by decide, by decide, rfl,
      by decide +kernel⟩, ⟨pingFrame 1, rfl⟩, given_takes _ _, by decide, given_takes _ _, by decide, given_takes _ _,
    by decide⟩
theorem witness_NamedCommandIsItsFrame : commandRow (.ping 1) = some (pingFrame 1) ∧
    (given linkUp (pingFrame 1)).hlk.inbound.head? = some (pingFrame 1) ∧ linkUp.hlk.inbound.head? ≠ some (pingFrame 1) := by decide
theorem witness_PingAndReadStatus : (given linkUp ⟨1, 0x01, []⟩).Takes ⟨1, 0x01, []⟩ ∧
    (given linkUp ⟨1, 0x02, []⟩).Takes ⟨1, 0x02, []⟩ ∧ linkUp.ct.nstop = .high ∧ (0 : Byte).toNat = 0 + 0 + 0 + 0 ∧
    linkUp.nalert = false := ⟨given_takes _ _, given_takes _ _, rfl, rfl, by decide +kernel⟩
theorem witness_SetOutputsAndSetMode : (∀ m st : Half, (given linkUp (setOutputsFrame 1 m st)).Takes (setOutputsFrame 1 m st)) ∧
    (4096 ≤ (0x1000 : Half).toNat ∧ (0x0FFF : Half).toNat < 4096) ∧
    (given (stopMoving .low .low 0 []) (setOutputsFrame 1 1 1)).ct.nstop = .low ∧
    (given linkUp (setOutputsFrame 1 1 1)).ct.nstop = .high ∧
    (∃ demand : ChanSet, ∀ c : Chan, demand.getLsbD c.val =
      if (0x0FFF : Half).getLsbD c.val = true then (0x0801 : Half).getLsbD c.val else linkUp.ct.demand.getLsbD c.val) ∧
    (∃ locked : ChanSet, ∀ c : Chan, locked.getLsbD c.val =
      decide ((0x0FFF : Half).getLsbD c.val = true ∧ (linkUp.ct.entries.get c).mirror.protection = .locked)) ∧
    (∀ timeout auto : Byte, (given linkUp ⟨1, 0x41, [timeout, auto]⟩).Takes ⟨1, 0x41, [timeout, auto]⟩) ∧
    2 ≤ (2 : Byte).toNat ∧ (1 : Byte).toNat < 2 :=
  ⟨fun _ _ => given_takes _ _, by decide, rfl, rfl, ⟨0x801, by decide +kernel⟩, ⟨0, by decide +kernel⟩, fun _ _ => given_takes _ _,
    by decide, by decide⟩

/-- The Action Queue with sixteen entries of tags 1 to 16. -/
def full : List Action := (List.range 16).map fun i => ⟨byteOf (i + 1), .main, .atMark, 1, 0, none⟩

theorem witness_QueueActionAccepted : (∀ f : Frame, (given linkUp f).Takes f) ∧ linkUp.ct.nstop = .high ∧
    (stopMoving .low .low 0 []).ct.nstop = .low ∧ 16 < full.length + 1 ∧ 16 < (full.take 15).length + 2 ∧
    (full.take 15).length + 1 ≤ 16 ∧ (∃ b ∈ full.take 15, b.tag = 15) ∧ (∀ b ∈ full.take 15, b.tag ≠ 16) ∧
    (1 ≤ (200000 : BitVec 32).toNat ∧ (200000 : BitVec 32).toNat ≤ 200000) :=
  ⟨fun _ => given_takes _ _, rfl, rfl, by decide +kernel, by decide +kernel, by decide +kernel, by decide +kernel,
    by decide +kernel, by decide⟩
theorem witness_CancelAction : (∀ tag : Byte, (given (atTime 51000 0 full) ⟨1, 0x12, [tag]⟩).Takes ⟨1, 0x12, [tag]⟩) ∧
    (∀ b ∈ full, b.tag ≠ 17) ∧ full = full.take 15 ++ (⟨16, .main, .atMark, 1, 0, none⟩ : Action) :: [] ∧
    ∀ b ∈ full.take 15 ++ [], b.tag ≠ 16 := ⟨fun _ => given_takes _ _, by decide +kernel, by decide +kernel, by decide +kernel⟩
theorem witness_ListActionsAndReadChannel : main21.Formed ∧
    (∀ n : Byte, (given linkUp ⟨1, 0x13, [n]⟩).Takes ⟨1, 0x13, [n]⟩ ∧ (given linkUp ⟨1, 0x21, [n]⟩).Takes ⟨1, 0x21, [n]⟩) ∧
    16 ≤ (16 : Byte).toNat ∧ (15 : Byte).toNat < 16 ∧ 12 ≤ (12 : Byte).toNat ∧ (11 : Byte).toNat = (11 : Chan).val :=
  ⟨main21_formed, fun _ => ⟨given_takes _ _, given_takes _ _⟩, by decide⟩
theorem witness_ConfigureChannel : (∀ f : Frame, (given linkUp f).Takes f) ∧ (4096 ≤ (0x1000 : Half).toNat) ∧
    (0x0FFF : Half) ≠ 0 ∧ (0x0FFF : Half).toNat < 4096 ∧
    ConfigRecord.ofBytes recordBytes = some ⟨.high, 1, 50, 15, .ma40, .ms20, true, true, true, .hold, 100⟩ ∧
    ConfigRecord.ofBytes { recordBytes with holdTime := 101 } = none ∧ linkUp.blc.link = .up ∧ State.reset.blc.link = .syncing :=
  ⟨fun _ => given_takes _ _, by decide, by decide, by decide, by decide, by decide, rfl, rfl⟩
theorem witness_ClearFaults : (∀ f : Frame, (given linkUp f).Takes f) ∧ 4096 ≤ (0x1000 : Half).toNat ∧ 32 ≤ (32 : Byte).toNat ∧
    2 ≤ (2 : Byte).toNat ∧ (31 : Byte).toNat < 32 ∧ (1 : Byte).toNat < 2 ∧ (0x0FFF : Half).toNat < 4096 ∧
    (∃ set : ChanSet, set ≠ 0 ∧ ∀ c : Chan, set.getLsbD c.val =
      decide ((0x0FFF : Half).getLsbD c.val = true ∧ ((ctUp.entries.set 9 { entryUp with mirror := status45 }).get c).mirror.protection = .locked)) ∧
    linkUp.blc.link = .up ∧ State.reset.blc.link = .syncing :=
  ⟨fun _ => given_takes _ _, by decide, by decide, by decide, by decide, by decide, by decide,
    ⟨0x200, by decide, by decide +kernel⟩, rfl, rfl⟩
theorem witness_FilterTable : (∀ f : Frame, (given linkUp f).Takes f) ∧ 8 ≤ (8 : Byte).toNat ∧ 2 ≤ (2 : Byte).toNat ∧
    3 ≤ (3 : Byte).toNat ∧ (0x0100 : Half) &&& 0b1011100100000001#16 ≠ 0 ∧ (0x1000 : Half) &&& 0b0111000000000000#16 ≠ 0 ∧
    (7 : Byte).toNat = (7 : Fin 8).val ∧ (1 : Byte).toNat < 2 ∧ (2 : Byte) = FilterAction.drop.code ∧
    (0x46FE : Half) &&& 0b1011100100000001#16 = 0 ∧ (0x8FFF : Half) &&& 0b0111000000000000#16 = 0 :=
  ⟨fun _ => given_takes _ _, by decide⟩
theorem witness_ReadSnapshotAndSoftReset : (∀ f : Frame, (given { linkUp with mc := mark54 } f).Takes f) ∧
    (given { linkUp with mc := mark54 } ⟨1, 0x40, []⟩).mc.last = some snapshot43 ∧ linkUp.mc.last = none :=
  ⟨fun _ => given_takes _ _, rfl, rfl⟩

/-- The status frame that confirms what `waiting` waits for. -/
def confirming : StatusFrame := { statusWith statusOff with channels := (Table.all statusOff).set 5 { statusOff with applied := some 1 } }

theorem witness_WaitEnds_idle : linkUp.runs = true ∧ linkUp.ce.engine = .idle ∧
    ({ linkUp with ce := ⟨.resetting, none⟩ } : State).runs = true ∧
    ({ linkUp with ce := ⟨.resetting, none⟩ } : State).ce.engine = .resetting := by decide
theorem witness_WaitEnds_over : ∃ (s : State) (w : WaitingCommand) (left : ChanSet), s.runs = true ∧ s.ce.engine = .waiting w ∧
    w.elapsed = 400 ∧ w.awaited = .confirmation 0x020 ∧
    ∀ c : Chan, left.getLsbD c.val = ((0x020 : ChanSet).getLsbD c.val && (s.ct.entries.get c).pending) :=
  ⟨{ waiting with ce := ⟨.waiting ⟨⟨10, 0x20, []⟩, .confirmation 0x020, 400⟩, none⟩ }, _, 0x020, rfl, rfl, rfl, rfl, by decide +kernel⟩
theorem witness_WaitEnds : waiting.runs = true ∧
    waiting.ce.engine = .waiting ⟨⟨10, 0x20, []⟩, .confirmation 0x020, 399⟩ ∧ 399 < 400 ∧
    (∃ left : ChanSet, ∀ c : Chan, left.getLsbD c.val = ((0x020 : ChanSet).getLsbD c.val && (waiting.ct.entries.get c).pending)) ∧
    ((showing waiting confirming).barrier.late ++ (showing waiting confirming).barrier.status)[0]? = some confirming ∧
    confirming.cycle = waiting.blc.time.setWidth 8 ∧ waiting.blc.goodTaken = false ∧
    ((after (.goodStatusFrameTaken 0) (showing waiting confirming)).ct.entries.get 5).pending = false ∧
    ((after (.goodStatusFrameTaken 0) (showing waiting (statusWith statusOff))).ct.entries.get 5).pending = true ∧
    (after (.goodStatusFrameTaken 0) (showing waiting confirming)).ce.engine = .idle :=
  ⟨rfl, by decide, by decide, ⟨0x020, by decide +kernel⟩, by decide +kernel⟩

/-! ### Witnesses: what every step keeps -/

/-- A state that meets the property takes a step to a next state. -/
def Steps (P : State → Prop) (s : State) : Prop := P s ∧ ∃ t, step s = .next t ∧ t ≠ s

theorem witness_StepKeepsFieldSide :
    Steps State.FieldSound { withField fieldSafe (some { drive7 with slot := some slot20 }) with pending := [.holdTimerExpiry 0] } := by
  refine ⟨⟨?_, ?_, ?_⟩, _, rfl, by decide +kernel⟩
  · intro f h
    cases h
    exact fieldSafe_sound
  · intro d h x hx
    cases h
    cases hx
    exact ⟨by decide, by decide, by decide, by decide⟩
  · intro c
    have h : ∀ c : Chan, (State.reset.ct.entries.get c).record = ConfigRecord.default := by decide +kernel
    show (State.reset.ct.entries.get c).record.Valid
    rw [h c]
    exact ⟨by decide, by decide, by decide, by decide⟩

theorem witness_StepKeepsReportUnit :
    Steps (fun s => s.ru.Sound) { linkUp with ru := unit 104 4 6 (some 3), pending := [.reportFrameFormed] } :=
  ⟨unit_sound 104 4 6 (.inr rfl), _, rfl, by decide +kernel⟩

theorem witness_StepKeepsQueueAndDemand :
    Steps (fun s => QueueSound s.aq ∧ s.DemandSound) { atTime 1002000 0b000100000000 [main21] with pending := [.atTimeEntriesDue] } := by
  refine ⟨⟨queue21_sound, ⟨?_, ?_, ?_, ?_⟩⟩, _, rfl, by decide +kernel⟩
  · intro h; cases h
  · intro h; cases h
  · intro h; cases h
  · intro c h
    have h' : (ctUp.entries.get c).countdown = none := by revert c; decide +kernel
    have h2 : (ctUp.entries.get c).countdown.isSome = true := h
    rw [h'] at h2
    cases h2

theorem witness_StepKeepsChannelTableAndLink :
    Steps (fun s => s.ct.Sound ∧ s.blc.Sound) { showing linkUp (statusWith status45) with pending := [.goodStatusFrameTaken 0] } :=
  ⟨⟨ctUp_sound, ⟨by decide, by decide, by decide, by decide, by decide, by decide, by decide, by decide⟩⟩, _, rfl,
    by decide +kernel⟩

theorem witness_StepKeepsHostLinkAndMark :
    Steps (fun s => s.LinkSound ∧ s.mc.Sound s.runs) { given linkUp (pingFrame 1) with pending := [.commandTaken] } := by
  refine ⟨⟨⟨by decide, by decide, by decide, ?_, ?_, by decide, by decide, by decide, by decide, by decide⟩, ⟨by decide, by decide, by decide, by decide⟩⟩,
    _, rfl, ?_⟩
  · intro w h; cases h
  · intro w h; cases h
  · intro h
    have h' := congrArg (fun t => t.hlk.inbound.length) h
    revert h'
    decide +kernel

end Sys2Proof.Tests
end

section
/-! PROOF. The report queue and its records: what an ACK makes of the queue (R144, R138), and that every other operation of the
Report Unit only adds records at the tail. -/

namespace Sys2Proof.Machine

open Sys2Proof

/-! ## OVERFLOW records made from the pending loss (R138) -/

/-- The OVERFLOW record numbered `i` of those made from the pending loss (R138): each takes up to 65,535 losses. -/
def ReportUnit.overflowRecord (u : ReportUnit) (now : PartTime) (i : Nat) : ReportRecord :=
  ⟨u.next + BitVec.ofNat 16 i, now, .overflow (min 65535 (u.loss - 65535 * i)), .new⟩

/-- The Report Unit with `made` OVERFLOW records made from its pending loss (R138). -/
def ReportUnit.withOverflow (u : ReportUnit) (now : PartTime) (made : Nat) : ReportUnit :=
  { u with
    queue := u.queue ++ (List.range made).map (u.overflowRecord now)
    next := u.next + BitVec.ofNat 16 made
    loss := u.loss - 65535 * made }

/-- How many OVERFLOW records R138 makes: one for each 65,535 losses begun, as far as the queue has room. -/
def ReportUnit.overflowsDue (u : ReportUnit) : Nat := min ((u.loss + 65534) / 65535) (32 - u.queue.length)

/-- The Report Unit with the first OVERFLOW record made: what one round of `makeOverflow` does. -/
def ReportUnit.firstOverflow (u : ReportUnit) (now : PartTime) : ReportUnit :=
  ({ u with loss := u.loss - min u.loss 65535 } : ReportUnit).append now (.overflow (min u.loss 65535))

theorem makeOverflow_succ (now : PartTime) (n : Nat) (u : ReportUnit) :
    makeOverflow now (n + 1) u =
      if 0 < u.loss ∧ u.queue.length < 32 then makeOverflow now n (u.firstOverflow now) else u := rfl

theorem seq_add_succ (x : Half) (i : Nat) : x + 1#16 + BitVec.ofNat 16 i = x + BitVec.ofNat 16 (i + 1) := by
  rw [BitVec.add_assoc, Nat.add_comm i 1, BitVec.ofNat_add]

theorem ReportUnit.withOverflow_zero (u : ReportUnit) (now : PartTime) : u.withOverflow now 0 = u := by
  simp [ReportUnit.withOverflow]

theorem ReportUnit.overflowRecord_zero (u : ReportUnit) (now : PartTime) :
    u.overflowRecord now 0 = ⟨u.next, now, .overflow (min u.loss 65535), .new⟩ := by
  simp [ReportUnit.overflowRecord, Nat.min_comm]

theorem ReportUnit.overflowRecord_firstOverflow (u : ReportUnit) (now : PartTime) (i : Nat) :
    (u.firstOverflow now).overflowRecord now i = u.overflowRecord now (i + 1) := by
  have hloss : u.loss - min u.loss 65535 - 65535 * i = u.loss - 65535 * (i + 1) := by omega
  simp [ReportUnit.overflowRecord, ReportUnit.firstOverflow, ReportUnit.append, hloss, seq_add_succ]

/-- Making one record and then `made` more makes `made + 1`. -/
theorem ReportUnit.withOverflow_firstOverflow (u : ReportUnit) (now : PartTime) (made : Nat) :
    (u.firstOverflow now).withOverflow now made = u.withOverflow now (made + 1) := by
  have hloss : u.loss - min u.loss 65535 - 65535 * made = u.loss - 65535 * (made + 1) := by omega
  have hrecords : (List.range (made + 1)).map (u.overflowRecord now) =
      u.overflowRecord now 0 :: (List.range made).map ((u.firstOverflow now).overflowRecord now) := by
    rw [List.range_succ_eq_map, List.map_cons, List.map_map]
    congr 1
    exact List.map_congr_left fun i _ => (u.overflowRecord_firstOverflow now i).symm
  unfold ReportUnit.withOverflow
  rw [hrecords, u.overflowRecord_zero]
  simp [ReportUnit.firstOverflow, ReportUnit.append, hloss, seq_add_succ]

theorem ReportUnit.overflowsDue_firstOverflow (u : ReportUnit) (now : PartTime) (hloss : 0 < u.loss)
    (hroom : u.queue.length < 32) : u.overflowsDue = (u.firstOverflow now).overflowsDue + 1 := by
  simp only [ReportUnit.overflowsDue, ReportUnit.firstOverflow, ReportUnit.append, List.length_append, List.length_singleton]
  omega

/-- OVERFLOW records are made while a pending loss is left and the queue has room (R138). -/
theorem makeOverflow_eq_withOverflow (now : PartTime) (fuel : Nat) (u : ReportUnit) (h : u.overflowsDue ≤ fuel) :
    makeOverflow now fuel u = u.withOverflow now u.overflowsDue := by
  induction fuel generalizing u with
  | zero =>
    rw [Nat.le_zero.mp h, u.withOverflow_zero]
    rfl
  | succ n ih =>
    rw [makeOverflow_succ]
    split
    · rename_i hc
      have hdue := u.overflowsDue_firstOverflow now hc.1 hc.2
      rw [ih _ (by omega), u.withOverflow_firstOverflow, hdue]
    · have hdue : u.overflowsDue = 0 := by
        unfold ReportUnit.overflowsDue
        omega
      rw [hdue, u.withOverflow_zero]

/-! ## The taking of an ACK (R144) -/

theorem ReportUnit.covers_iff (u : ReportUnit) (d : Nat) :
    u.covers d = true ↔ 1 ≤ d ∧ d ≤ u.queue.length ∧ ∀ r ∈ u.queue.take d, r.delivery ≠ .new := by
  simp [ReportUnit.covers, and_assoc, Nat.succ_le_iff]

theorem ReportUnit.ack_of_covers (u : ReportUnit) (now : PartTime) (n : Half) (h : u.covers (u.ackDistance n) = true) :
    u.ack now n = u.remove now (u.ackDistance n) := if_pos h

/-- An ACK that covers nothing, more than the queue holds, or a record in NEW is ignored whole. -/
theorem ReportUnit.ack_of_not_covers (u : ReportUnit) (now : PartTime) (n : Half)
    (h : ¬(1 ≤ u.ackDistance n ∧ u.ackDistance n ≤ u.queue.length ∧
      ∀ r ∈ u.queue.take (u.ackDistance n), r.delivery ≠ .new)) :
    u.ack now n = u := if_neg fun hc => h ((u.covers_iff _).mp hc)

/-- Removing the `d` oldest records: the rest stays, the timer follows it (R142), and OVERFLOW records are made (R138). -/
theorem ReportUnit.remove_eq (u : ReportUnit) (now : PartTime) (d : Nat) :
    u.remove now d =
      ({ u with
        queue := u.queue.drop d
        timer := if ∃ r ∈ u.queue.drop d, r.delivery = .sent then some 0 else none } : ReportUnit).withOverflow now
        (min ((u.loss + 65534) / 65535) (32 - (u.queue.length - d))) := by
  have htimer : (u.queue.drop d).any ReportRecord.isSent = true ↔ ∃ r ∈ u.queue.drop d, r.delivery = .sent := by
    simp [List.any_eq_true, ReportRecord.isSent]
  unfold ReportUnit.remove
  dsimp only
  rw [makeOverflow_eq_withOverflow]
  · simp only [ReportUnit.overflowsDue, List.length_drop, htimer]
  · exact Nat.le_trans (Nat.min_le_right _ _) (Nat.sub_le _ _)

/-! ## The runs of the queue (R135) -/

/-- The records in SENT and in RESEND are those that are not in NEW. -/
theorem ReportUnit.countIn_sent_add_resend (u : ReportUnit) :
    u.countIn .sent + u.countIn .resend = u.queue.countP fun r => decide (r.delivery ≠ .new) := by
  unfold ReportUnit.countIn
  induction u.queue with
  | nil => rfl
  | cons r rest ih =>
    simp only [List.countP_cons, ← ih]
    cases r.delivery <;> simp <;> omega

/-- In a list whose members that meet `p` come first, the first `d` meet `p` exactly if at least `d` members do. -/
theorem forall_mem_take_iff_le_countP {α : Type} (p : α → Bool) (l : List α) (d : Nat)
    (hp : l.Pairwise fun a b => p b = true → p a = true) (hd : d ≤ l.length) :
    (∀ a ∈ l.take d, p a = true) ↔ d ≤ l.countP p := by
  induction l generalizing d with
  | nil => simpa using hd
  | cons a rest ih =>
    obtain ⟨hhead, hrest⟩ := List.pairwise_cons.mp hp
    cases d with
    | zero => simp
    | succ d =>
      have hd' : d ≤ rest.length := Nat.le_of_succ_le_succ hd
      cases ha : p a with
      | true => simp [ha, ih d hrest hd']
      | false =>
        have hnone : rest.countP p = 0 :=
          List.countP_eq_zero.mpr fun b hb hpb => by simp [hhead b hb hpb] at ha
        simp [ha, hnone]

/-- With the runs in order, none of the `d` oldest records is in NEW exactly if `d` is not greater than the number of records in SENT
and RESEND (R144). -/
theorem ReportUnit.Sound.oldest_not_new_iff {u : ReportUnit} (h : u.Sound) {d : Nat} (hd : d ≤ u.queue.length) :
    (∀ r ∈ u.queue.take d, r.delivery ≠ .new) ↔ d ≤ u.countIn .sent + u.countIn .resend := by
  have hfirst : u.queue.Pairwise fun a b => decide (b.delivery ≠ .new) = true → decide (a.delivery ≠ .new) = true := by
    refine h.runs.imp fun {a b} hab => ?_
    revert hab
    cases a.delivery <;> cases b.delivery <;> decide
  rw [u.countIn_sent_add_resend, ← forall_mem_take_iff_le_countP _ _ _ hfirst hd]
  simp

/-! ## The records stay: the operations of the Report Unit -/

/-- The records of `u` stand, in their order, at the front of the queue of `v`: no record has been removed. -/
def ReportUnit.KeptIn (u v : ReportUnit) : Prop := u.queue.map ReportRecord.seq <+: v.queue.map ReportRecord.seq

theorem ReportUnit.KeptIn.refl (u : ReportUnit) : u.KeptIn u := ⟨[], List.append_nil _⟩

theorem ReportUnit.KeptIn.trans {u v w : ReportUnit} (h : u.KeptIn v) (h' : v.KeptIn w) : u.KeptIn w :=
  List.IsPrefix.trans h h'

/-- An operation that changes the queue's records but none of their numbers removes none. -/
theorem ReportUnit.KeptIn.of_seqs_eq {u v : ReportUnit}
    (h : v.queue.map ReportRecord.seq = u.queue.map ReportRecord.seq) : u.KeptIn v :=
  ⟨[], (List.append_nil _).trans h.symm⟩

theorem ReportRecord.merged_seq (r : ReportRecord) : r.merged.seq = r.seq := by
  unfold ReportRecord.merged
  split <;> rfl

theorem mergeLoss_seqs (l : List ReportRecord) : (mergeLoss l).map ReportRecord.seq = l.map ReportRecord.seq := by
  induction l using mergeLoss.induct with
  | case1 => rfl
  | case2 r => simp [mergeLoss, r.merged_seq]
  | case3 r rest hne ih => simp [mergeLoss, ih]

theorem markSent_seqs (n : Nat) (l : List ReportRecord) : (markSent n l).map ReportRecord.seq = l.map ReportRecord.seq := by
  induction l generalizing n with
  | nil => simp [markSent]
  | cons r rest ih =>
    cases n with
    | zero => simp [markSent]
    | succ n =>
      unfold markSent
      split <;> simp [ih]

theorem ReportRecord.goBack_seq (r : ReportRecord) : r.goBack.seq = r.seq := by
  unfold ReportRecord.goBack
  split <;> rfl

theorem ReportUnit.keptIn_append (u : ReportUnit) (now : PartTime) (e : Event) : u.KeptIn (u.append now e) := by
  simp [ReportUnit.KeptIn, ReportUnit.append]

theorem ReportUnit.keptIn_lose (u : ReportUnit) : u.KeptIn u.lose := by
  rcases u.lose_cases with ⟨r, -, -, h⟩ | ⟨-, h⟩
  · rw [h]
    exact .of_seqs_eq (mergeLoss_seqs _)
  · rw [h]
    exact .refl u

theorem ReportUnit.keptIn_enqueue (u : ReportUnit) (now : PartTime) (e : Event) : u.KeptIn (u.enqueue now e) := by
  rcases u.enqueue_cases now e with ⟨-, h⟩ | ⟨-, h⟩
  · rw [h]
    exact u.keptIn_append now e
  · rw [h]
    exact u.keptIn_lose

theorem ReportUnit.keptIn_take (u : ReportUnit) (now : PartTime) (e : Event) : u.KeptIn (u.take now e) := by
  rcases u.take_cases now e with h | ⟨⟨i, -, -, h⟩ | ⟨i, -, -, h⟩, -⟩
  · rw [h]
    exact u.keptIn_enqueue now e
  · rw [h]
    exact .refl u
  · rw [h]
    exact .refl u

theorem ReportUnit.keptIn_takeAll (u : ReportUnit) (now : PartTime) (es : List Event) : u.KeptIn (u.takeAll now es) :=
  ReportUnit.takeAll_keeps now (fun v e hv => hv.trans (v.keptIn_take now e)) es u (.refl u)

theorem ReportUnit.keptIn_formFrame (u : ReportUnit) : u.KeptIn u.formFrame := .of_seqs_eq (markSent_seqs _ _)

theorem ReportUnit.keptIn_goBack (u : ReportUnit) : u.KeptIn u.goBack :=
  .of_seqs_eq (by simp [ReportUnit.goBack, ReportRecord.goBack_seq])

theorem ReportUnit.keptIn_tick (u : ReportUnit) : u.KeptIn u.tick := .refl u

end Sys2Proof.Machine
end

section
/-! PROOF. The records stay in the report queue: the operations that several commands share, and the commands. -/

namespace Sys2Proof.Machine

open Sys2Proof

/-! ## The shared operations -/

/-- No record of the report queue of `s` has been removed in `t`. -/
def State.RecordsKept (s t : State) : Prop := s.ru.KeptIn t.ru

theorem State.RecordsKept.of_ru_eq {s t : State} (h : t.ru = s.ru) : s.RecordsKept t := by
  unfold State.RecordsKept
  rw [h]
  exact .refl _

theorem State.RecordsKept.trans {s t r : State} (h : s.RecordsKept t) (h' : t.RecordsKept r) : s.RecordsKept r :=
  ReportUnit.KeptIn.trans h h'

/-- What an operation that does no more to the Report Unit than raise events leaves (R127). -/
theorem State.RecordsKept.of_takeAll {s t : State} {now : PartTime} {es : List Event} (h : t.ru = s.ru.takeAll now es) :
    s.RecordsKept t := by
  unfold State.RecordsKept
  rw [h]
  exact s.ru.keptIn_takeAll now es

theorem State.applyActions_recordsKept (s : State) (as : List Action) : s.RecordsKept (s.applyActions as) := by
  induction as generalizing s with
  | nil => exact .of_ru_eq rfl
  | cons a as ih => exact .trans (.of_takeAll (s.applyAction_ru a)) (ih (s.applyAction a))

theorem State.applyDue_recordsKept (s : State) : s.RecordsKept s.applyDue := s.applyActions_recordsKept _

theorem State.recognisedEdge_recordsKept (s : State) : s.RecordsKept s.recognisedEdge :=
  ({ s with mc := s.mc.capturing s.snapshot } : State).applyActions_recordsKept _

theorem State.endSilenceIfAny_recordsKept (s : State) : s.RecordsKept s.endSilenceIfAny := by
  unfold State.endSilenceIfAny
  split
  · exact .of_takeAll s.endSilence_ru
  · exact .of_ru_eq rfl

theorem State.hostHeard_recordsKept (s : State) : s.RecordsKept s.hostHeard := by
  unfold State.hostHeard
  split
  · exact .of_takeAll s.endSilence_ru
  · exact .of_ru_eq rfl

theorem State.rxError_recordsKept (s : State) (reason : RxReason) : s.RecordsKept (s.rxError reason) := by
  unfold State.rxError
  split
  · exact .of_takeAll rfl
  · exact .of_ru_eq rfl

/-! ## The barrier cycle -/

theorem State.takeAdvance_recordsKept (s : State) (a : AdvanceHappening) : s.RecordsKept (s.takeAdvance a) := by
  cases a with
  | atTimeEntriesDue => exact s.applyDue_recordsKept
  | holdCountdownExpiry c => simp only [State.takeAdvance]; split <;> exact .of_ru_eq rfl
  | silenceTimeout =>
    simp only [State.takeAdvance]
    split
    · exact .of_takeAll s.beginSilence_ru
    · exact .of_ru_eq rfl
  | retransmissionTimerExpiry =>
    simp only [State.takeAdvance]
    split
    · exact s.ru.keptIn_goBack
    · exact .of_ru_eq rfl
  | waitTimerExpiry =>
    simp only [State.takeAdvance]
    split
    · exact .of_ru_eq s.waitExpiry_ru
    · exact .of_ru_eq rfl

theorem State.takeAdvances_recordsKept (s : State) (first : List AdvanceHappening) :
    s.RecordsKept (first.foldl State.takeAdvance s) := by
  induction first generalizing s with
  | nil => exact .of_ru_eq rfl
  | cons a first ih => exact .trans (s.takeAdvance_recordsKept a) (ih (s.takeAdvance a))

theorem State.startCycle_recordsKept (s : State) (first : List AdvanceHappening) : s.RecordsKept (s.startCycle first) := by
  have hclose : s.RecordsKept s.closeCycle := .of_takeAll s.closeCycle_ru
  have hadvance : s.closeCycle.RecordsKept s.closeCycle.advance := s.closeCycle.ru.keptIn_tick
  have hfirst := s.closeCycle.advance.takeAdvances_recordsKept first
  exact hclose.trans (hadvance.trans (hfirst.trans (.of_ru_eq (State.sendFrame_ru _))))

theorem State.receiveStatus_recordsKept (s : State) (k : Nat) : s.RecordsKept (s.receiveStatus k) := by
  unfold State.receiveStatus
  split
  · exact .of_takeAll (State.testWait_ru _)
  · exact .of_ru_eq rfl

/-! ## The host's commands -/

theorem runClearFaults_recordsKept (channels : ChanSet) (kinds : PerKind Bool) (release : Bool) (s : State) :
    s.RecordsKept (runClearFaults channels kinds release s).state := by
  unfold runClearFaults
  dsimp only
  split
  · exact .of_takeAll rfl
  · split <;> exact .of_takeAll rfl

/-- Of the fourteen commands CLEAR_FAULTS alone raises events; SET_FILTER and READ_FILTER touch the filter table alone. -/
theorem runCommand_recordsKept (c : HostCommand) (s : State) : s.RecordsKept (runCommand c s).state := by
  cases c with
  | clearFaults channels kinds release => exact runClearFaults_recordsKept channels kinds release s
  | setFilter i f => exact ReportUnit.KeptIn.refl s.ru
  | readFilter i clear => cases clear <;> exact ReportUnit.KeptIn.refl s.ru
  | setOutputs channels states =>
    refine .of_ru_eq ?_
    simp only [runCommand, runSetOutputs]
    split <;> rfl
  | queueAction tag delay channels states revert =>
    refine .of_ru_eq ?_
    simp only [runCommand, runQueueAction]
    split
    · rfl
    · split
      · rfl
      · split <;> rfl
  | cancelAction tag =>
    refine .of_ru_eq ?_
    simp only [runCommand, runCancelAction]
    split <;> rfl
  | configureChannel channels record =>
    refine .of_ru_eq ?_
    simp only [runCommand, runConfigure]
    split <;> rfl
  | readSnapshot =>
    refine .of_ru_eq ?_
    simp only [runCommand, runReadSnapshot]
    split <;> rfl
  | ping | readStatus | listActions _ | readChannel _ | setMode _ _ | softReset => exact .of_ru_eq rfl

theorem State.execute_recordsKept (s : State) (f : Frame) : s.RecordsKept (s.execute f) := by
  unfold State.execute
  split
  · exact .of_ru_eq rfl
  · rename_i c _
    exact (runCommand_recordsKept c s).trans (.of_ru_eq (State.conclude_ru _ f _))

theorem State.deal_recordsKept (s : State) (f : Frame) : s.RecordsKept (s.deal f) := by
  rcases s.deal_cases f with ⟨r, -, h⟩ | ⟨-, h⟩
  · rw [h]
    exact s.endSilenceIfAny_recordsKept.trans (.of_ru_eq rfl)
  · rw [h]
    exact s.endSilenceIfAny_recordsKept.trans (s.endSilenceIfAny.execute_recordsKept f)

theorem State.takeCommand_recordsKept (s : State) : s.RecordsKept s.takeCommand := by
  unfold State.takeCommand
  split
  · exact .of_ru_eq rfl
  · exact s.dropHead.deal_recordsKept _

/-! ## The host link and the pins -/

theorem State.offerFrame_recordsKept (s : State) (f : Frame) : s.RecordsKept (s.offerFrame f) := by
  unfold State.offerFrame
  split
  · exact .of_ru_eq rfl
  · have hbusy : s.RecordsKept ((s.rxError .dropped).busyIfRoom f) :=
      (s.rxError_recordsKept .dropped).trans (.of_ru_eq (State.busyIfRoom_ru _ f))
    exact hbusy.trans (State.hostHeard_recordsKept _)

theorem State.discardFrame_recordsKept (s : State) (reason : RxReason) : s.RecordsKept (s.discardFrame reason) :=
  (s.setReceiver Receiver.hunt).rxError_recordsKept reason

/-- What the line brings is heard without a change of the Report Unit. -/
theorem State.ru_of_hears {s t : State} {l : RxLine} {r : RxResult} (h : s.hears l = some (r, t)) : t.ru = s.ru := by
  obtain ⟨ch, -, heq⟩ := Option.map_eq_some_iff.mp h
  cases heq
  rfl

theorem State.recogniseStop_recordsKept (s : State) : s.RecordsKept s.recogniseStop := by
  unfold State.recogniseStop
  split
  · exact .of_takeAll s.assertStop_ru
  · exact .of_takeAll s.releaseStop_ru

theorem State.edgeCompletes_recordsKept (s : State) : s.RecordsKept s.edgeCompletes := by
  unfold State.edgeCompletes
  split
  · exact .of_ru_eq rfl
  · refine .trans (.of_ru_eq ?_) (State.recognisedEdge_recordsKept _)
    rfl

/-- The end of a frame on TXD resets the Report Unit only after a SOFT_RESET's response (R173). -/
theorem State.completeFrame_recordsKept (s : State) (straps : BitVec 2) (h : ∀ f, s.hlk.txd ≠ .sending ⟨f, true⟩) :
    s.RecordsKept (s.completeFrame straps) := by
  unfold State.completeFrame
  split
  · rename_i x hx
    obtain ⟨f, ends⟩ := x
    cases ends with
    | true => exact absurd hx (h f)
    | false => exact .of_ru_eq rfl
  · exact .of_ru_eq rfl
  · exact .of_ru_eq rfl

/-! ## The commands -/

theorem happening_recordsKept {enabled : Bool} {effect : State → State} {s t : State}
    (h : happening enabled effect s = .next t) (he : s.RecordsKept (effect s)) : s.RecordsKept t := by
  rcases happening_next h with ⟨-, rfl⟩ | ⟨-, rfl⟩
  · exact he
  · exact .of_ru_eq rfl

theorem logicHappening_recordsKept {enabled : Bool} {effect : State → State} {s t : State}
    (h : logicHappening enabled effect s = .next t) (he : s.RecordsKept (effect s)) : s.RecordsKept t := happening_recordsKept h he

theorem placingHappening_recordsKept {enabled : Bool} {effect : State → State} {s t : State}
    (h : placingHappening enabled effect s = .next t) (he : s.RecordsKept (effect s)) : s.RecordsKept t := happening_recordsKept h he

theorem fieldHappening_recordsKept {effect : FieldSide → FieldSide} {s t : State} (h : fieldHappening effect s = .next t) :
    s.RecordsKept t := .of_ru_eq (by rw [fieldHappening_next h])

theorem hostCommand_recordsKept {f : Frame} {s t : State} (h : hostCommand f s = .next t) : s.RecordsKept t :=
  placingHappening_recordsKept h (s.dropHead.deal_recordsKept f)

theorem execCommandFrameReceived_recordsKept {l : RxLine} {s t : State} (h : execCommandFrameReceived l s = .next t) :
    s.RecordsKept t := by
  refine placingHappening_recordsKept h ?_
  split
  · rename_i f r hr
    split
    · have hheard : s.RecordsKept (r.setReceiver Receiver.hunt) :=
        .of_ru_eq ((r.setReceiver_ru _).trans (State.ru_of_hears hr))
      exact hheard.trans (State.offerFrame_recordsKept _ f)
    · exact .of_ru_eq rfl
  all_goals exact .of_ru_eq rfl

theorem execRxFrameDiscard_recordsKept {l : RxLine} {s t : State} (h : execRxFrameDiscard l s = .next t) :
    s.RecordsKept t := by
  refine logicHappening_recordsKept h ?_
  split
  · rename_i reason r hr
    have hheard : s.RecordsKept r := .of_ru_eq (State.ru_of_hears hr)
    exact hheard.trans (r.discardFrame_recordsKept reason)
  all_goals exact .of_ru_eq rfl

theorem execCharacterReceived_recordsKept {l : RxLine} {s t : State} (h : execCharacterReceived l s = .next t) :
    s.RecordsKept t := by
  refine logicHappening_recordsKept h ?_
  split
  · rename_i rx r hr
    exact .of_ru_eq ((r.setReceiver_ru rx).trans (State.ru_of_hears hr))
  all_goals exact .of_ru_eq rfl

/-- No command but an ACK frame and the ends of a control reset removes a record from the report queue. -/
theorem exec_recordsKept (c : Instr) (s t : State) (hack : ∀ l, c ≠ .ackFrameReceived l) (hend : ∀ p, c ≠ .controlResetEnd p)
    (hsoft : ∀ p f, c = .transmissionComplete p → s.hlk.txd ≠ .sending ⟨f, true⟩) (h : exec c s = .next t) :
    s.RecordsKept t := by
  unfold exec at h
  cases c with
  | ackFrameReceived l => exact absurd rfl (hack l)
  | controlResetEnd p => exact absurd rfl (hend p)
  | transmissionComplete p =>
    exact logicHappening_recordsKept h (s.completeFrame_recordsKept p fun f => hsoft p f rfl)
  | barrierCycleStart first => exact placingHappening_recordsKept h (s.startCycle_recordsKept first)
  | goodStatusFrameTaken k => exact placingHappening_recordsKept h (s.receiveStatus_recordsKept k)
  | atTimeEntriesDue | holdCountdownExpiry _ | silenceTimeout | retransmissionTimerExpiry | waitTimerExpiry =>
    exact logicHappening_recordsKept h (s.takeAdvance_recordsKept _)
  | nstopAssertion => exact logicHappening_recordsKept h (.of_takeAll s.assertStop_ru)
  | nstopRelease => exact logicHappening_recordsKept h (.of_takeAll s.releaseStop_ru)
  | nstopFilterExpiry => exact logicHappening_recordsKept h s.recogniseStop_recordsKept
  | nstopPinChange level => exact happening_recordsKept h (.of_ru_eq (s.nstopMoves_ru level))
  | markFall | markRise => exact happening_recordsKept h (.of_ru_eq rfl)
  | markFilterExpiry => exact logicHappening_recordsKept h s.edgeCompletes_recordsKept
  | spacingTimerExpiry | quietTimeExpiry => exact logicHappening_recordsKept h (.of_ru_eq rfl)
  | commandFrameReceived l => exact execCommandFrameReceived_recordsKept h
  | rxFrameDiscard l => exact execRxFrameDiscard_recordsKept h
  | rxGapTimeout => exact logicHappening_recordsKept h (s.discardFrame_recordsKept .gap)
  | characterReceived l => exact execCharacterReceived_recordsKept h
  | commandTaken => exact placingHappening_recordsKept h s.takeCommand_recordsKept
  | ping _ | readStatus _ | setOutputs _ _ _ | queueAction _ _ _ _ _ _ _ | cancelAction _ _ | listActions _ _
  | configureChannel _ _ _ | readChannel _ _ | clearFaults _ _ _ _ | setFilter _ _ _ _ _ _ | readFilter _ _ _
  | readSnapshot _ | setMode _ _ _ | softReset _ => exact hostCommand_recordsKept h
  | responseTakenForTransmission => exact logicHappening_recordsKept h (.of_ru_eq s.sendResponse_ru)
  | snapshotFrameFormed => exact logicHappening_recordsKept h (.of_ru_eq s.sendSnapshot_ru)
  | reportFrameFormed => exact logicHappening_recordsKept h s.ru.keptIn_formFrame
  | controlResetStart cause => exact happening_recordsKept h (.of_ru_eq (s.startReset_ru cause))
  | driveFrameTaken sense => exact happening_recordsKept h (.of_ru_eq (s.driveArrives_ru sense))
  | watchTimerExpiry => exact happening_recordsKept h (.of_ru_eq s.watchExpires_ru)
  | fieldDieStop _ | fieldResetSupply _ => exact happening_recordsKept h (.of_ru_eq rfl)
  | holdTimerExpiry _ | supplyResetSilenceExpiry | vfCandidateChange _ | supplyFilterExpiry _ | regulationBegins _ _
  | regulationEnds _ _ | inrushTimerExpiry _ _ | limitTimerExpiry _ | settleTimerExpiry _ | junctionHot _ | junctionCool _
  | cooldownTimerExpiry _ | offBlankingExpiry _ _ | openThresholdCrossing _ _ | openOnQualificationExpiry _
  | openOnCurrentRecovery _ _ | outputVoltageWindowChange _ _ | openOffQualificationExpiry _ | openOffClearingExpiry _
  | shortSupplyQualificationExpiry _ | shortSupplyClearingExpiry _ => exact fieldHappening_recordsKept h

/-! ## The statement -/

/-- Settles O39: the ACK by its distance from the head number, and the records that every other command leaves by a case split over
the commands. -/
theorem ackTaken : Obligations.AckTaken := by
  unfold Obligations.AckTaken
  refine ⟨?_, ?_⟩
  · intro u now n d k hd hk
    have hdist : u.ackDistance n = d := hd.symm
    subst hk
    have hignored (h : ¬(1 ≤ d ∧ d ≤ u.queue.length ∧ ∀ r ∈ u.queue.take d, r.delivery ≠ .new)) : u.ack now n = u :=
      u.ack_of_not_covers now n (by rwa [hdist])
    refine ⟨?_, ?_, ?_, ?_, ?_⟩
    · intro h0
      exact hignored (by omega)
    · intro h1 hk hnew made hmade
      have hcovers := (u.covers_iff d).mpr ⟨h1, hk, hnew⟩
      rw [u.ack_of_covers now n (by rwa [hdist]), hdist, u.remove_eq, hmade]
      rfl
    · rintro - - ⟨r, hr, hnew⟩
      exact hignored fun ⟨_, _, h⟩ => h r hr hnew
    · intro hkd
      exact hignored (by omega)
    · intro hs _ hk
      exact hs.oldest_not_new_iff hk
  · intro c s t hack hend hsoft h
    obtain ⟨more, hmore⟩ := exec_recordsKept c s t hack hend hsoft h
    exact ⟨more, hmore.symm⟩

end Sys2Proof.Machine
end

section
/-! PROOF. A host command that is taken from the inbound queue and ends at once: the path from its row to its response (R164, R165,
R176, R177), said once for every command. -/

namespace Sys2Proof.Machine

open Sys2Proof

/-! ## The frame is taken and executed -/

theorem CommandEngine.cached_eq_none {e : CommandEngine} {f : Frame}
    (h : ∀ r, e.cache = some r → ¬(r.seq = f.seq ∧ r.crc = f.crc)) : e.cached f = none := by
  unfold CommandEngine.cached
  split
  · rename_i r hr
    exact if_neg (h r hr)
  · rfl

theorem State.endSilenceIfAny_of_heard {s : State} (h : s.ct.hostSilent = false) : s.endSilenceIfAny = s := by
  simp [State.endSilenceIfAny, h]

/-- Out of host silence, a frame that the reply cache does not hold is executed (R165). -/
theorem State.Takes.deal_dropHead {s : State} {f : Frame} (h : s.Takes f) : s.dropHead.deal f = s.dropHead.execute f := by
  have hheard : s.dropHead.endSilenceIfAny = s.dropHead := State.endSilenceIfAny_of_heard h.heard
  rcases s.dropHead.deal_cases f with ⟨r, hcached, -⟩ | ⟨-, hdeal⟩
  · rw [hheard, show s.dropHead.ce = s.ce from rfl, CommandEngine.cached_eq_none h.fresh] at hcached
    cases hcached
  · rw [hdeal, hheard]

theorem State.Takes.mayTake {s : State} {f : Frame} (h : s.Takes f) : s.mayTake f = true := by
  simp [State.mayTake, State.engineReady, linkPlaces, h.idle, h.room, h.head]

/-- The row of a frame that is taken executes it (R164, R165). -/
theorem hostCommand_of_takes {s : State} {f : Frame} (h : s.Takes f) :
    hostCommand f s = .next ((s.dropHead.execute f).tiedFrom s) := by
  rw [hostCommand, placingHappening_of _ h.runs h.mayTake, h.deal_dropHead]

/-! ## The checks of a frame (R177) -/

theorem CommandKind.ofCode_code (k : CommandKind) : CommandKind.ofCode k.code = some k := by
  cases k <;> rfl

theorem validate_badValue {k : CommandKind} {seq : Byte} {payload : List Byte} (hlen : payload.length = k.length)
    (hfields : fieldsOf k payload = none) : validate (commandFrame k seq payload) = .error .badValue := by
  simp [validate, commandFrame, CommandKind.ofCode_code, hlen, hfields]

theorem validate_ok {k : CommandKind} {seq : Byte} {payload : List Byte} {c : HostCommand} (hlen : payload.length = k.length)
    (hfields : fieldsOf k payload = some c) : validate (commandFrame k seq payload) = .ok c := by
  simp [validate, commandFrame, CommandKind.ofCode_code, hlen, hfields]

/-! ## The command ends at once -/

theorem State.finish_dropHead (u : State) (f : Frame) (status : Status) (contents : List Byte) :
    u.dropHead.finish f (responseTo f status contents) = u.answered f status contents := rfl

/-- A field value out of range is answered BAD_VALUE and changes nothing else (R177 step 3). -/
theorem hostCommand_badValue {s : State} {k : CommandKind} {seq : Byte} {payload : List Byte}
    (h : s.Takes (commandFrame k seq payload)) (hlen : payload.length = k.length) (hfields : fieldsOf k payload = none) :
    hostCommand (commandFrame k seq payload) s = .next (s.answered (commandFrame k seq payload) .badValue []) := by
  have hexecute : s.dropHead.execute (commandFrame k seq payload) = s.answered (commandFrame k seq payload) .badValue [] := by
    simp only [State.execute, validate_badValue hlen hfields, State.finish_dropHead]
  rw [hostCommand_of_takes h, hexecute]
  exact congrArg _ (State.tiedFrom_of_ru rfl)

/-- A command whose fields pass and which ends at once, leaving `u` but for the frame taken, is answered in `u`; with as many records
on offer as before it makes no tie (R165, R169). -/
theorem hostCommand_done {s u : State} {k : CommandKind} {seq : Byte} {payload : List Byte} {c : HostCommand} {status : Status}
    {contents : List Byte} (h : s.Takes (commandFrame k seq payload)) (hlen : payload.length = k.length)
    (hfields : fieldsOf k payload = some c) (hrun : runCommand c s.dropHead = ⟨u.dropHead, .done status contents⟩)
    (hoffered : u.ru.offered = s.ru.offered) :
    hostCommand (commandFrame k seq payload) s = .next (u.answered (commandFrame k seq payload) status contents) := by
  have hexecute : s.dropHead.execute (commandFrame k seq payload) = u.answered (commandFrame k seq payload) status contents := by
    simp only [State.execute, validate_ok hlen hfields, hrun, State.conclude, State.finish_dropHead]
  rw [hostCommand_of_takes h, hexecute]
  exact congrArg _ (State.tiedFrom_of_offered hoffered)

end Sys2Proof.Machine
end

section
/-! PROOF. CANCEL_ACTION: the entry that carries a tag, in the Action Queue (R103, R183). -/

namespace Sys2Proof.Machine

open Sys2Proof

/-! ## The entry that carries a tag -/

theorem findTag_eq_none {q : List Action} {tag : Byte} (h : ∀ b ∈ q, b.tag ≠ tag) : findTag q tag = none := by
  simpa [findTag] using h

theorem findTag_append_cons {front back : List Action} {a : Action} {tag : Byte} (hfront : ∀ b ∈ front, b.tag ≠ tag)
    (ha : a.tag = tag) : findTag (front ++ a :: back) tag = some a := by
  have hnone : findTag front tag = none := findTag_eq_none hfront
  unfold findTag at hnone ⊢
  simp [List.find?_append, hnone, ha]

theorem removeTag_eq_self {q : List Action} {tag : Byte} (h : ∀ b ∈ q, b.tag ≠ tag) : removeTag q tag = q := by
  simpa [removeTag] using h

/-- Only the entry that carries the tag leaves the queue; the others keep their order. -/
theorem removeTag_append_cons {front back : List Action} {a : Action} {tag : Byte} (hrest : ∀ b ∈ front ++ back, b.tag ≠ tag)
    (ha : a.tag = tag) : removeTag (front ++ a :: back) tag = front ++ back := by
  calc removeTag (front ++ a :: back) tag
      = removeTag (front ++ back) tag := by simp [removeTag, ha]
    _ = front ++ back := removeTag_eq_self hrest

/-- A MAIN entry with a revert delay frees its reservation's place beside its own (R103). -/
theorem byteOf_placesFreed (a : Action) : byteOf a.placesFreed = if a.phase = .main ∧ a.revert ≠ none then 2 else 1 := by
  obtain ⟨tag, phase, trigger, channels, states, revert⟩ := a
  cases phase <;> cases revert <;> rfl

/-! ## The command -/

theorem exec_cancelAction (seq tag : Byte) (s : State) :
    exec (.cancelAction seq tag) s = hostCommand (commandFrame .cancelAction seq [tag]) s := rfl

theorem fieldsOf_cancelAction (tag : Byte) :
    fieldsOf .cancelAction [tag] = if tag = 0 then none else some (.cancelAction tag) := rfl

theorem runCommand_cancelAction_of_absent {s : State} {tag : Byte} (h : ∀ b ∈ s.aq, b.tag ≠ tag) :
    runCommand (.cancelAction tag) s = ⟨s, .done .notFound []⟩ := by
  simp only [runCommand, runCancelAction, findTag_eq_none h]
  rfl

theorem runCommand_cancelAction_of_found {s : State} {tag : Byte} {front back : List Action} {a : Action}
    (hq : s.aq = front ++ a :: back) (ha : a.tag = tag) (hrest : ∀ b ∈ front ++ back, b.tag ≠ tag) :
    runCommand (.cancelAction tag) s = ⟨{ s with aq := front ++ back }, .done .ok (cancelContents a)⟩ := by
  have hfront : ∀ b ∈ front, b.tag ≠ tag := fun b hb => hrest b (List.mem_append_left back hb)
  simp only [runCommand, runCancelAction, hq, findTag_append_cons hfront ha, removeTag_append_cons hrest ha]
  rfl

/-- Settles O49: a tag of 0 fails the field check; otherwise the entry that carries the tag is sought in the queue. -/
theorem cancelAction : Obligations.CancelAction := by
  unfold Obligations.CancelAction
  intro s seq tag h
  rw [exec_cancelAction]
  refine ⟨fun h0 => ?_, fun h0 habsent => ?_, fun front back a h0 hq ha hrest => ?_⟩
  · exact hostCommand_badValue h rfl ((fieldsOf_cancelAction tag).trans (if_pos h0))
  · have hfields := (fieldsOf_cancelAction tag).trans (if_neg h0)
    exact hostCommand_done h rfl hfields (runCommand_cancelAction_of_absent (s := s.dropHead) habsent) rfl
  · have hfields := (fieldsOf_cancelAction tag).trans (if_neg h0)
    have hrun := runCommand_cancelAction_of_found (s := s.dropHead) hq ha hrest
    rw [← byteOf_placesFreed a]
    exact hostCommand_done (u := { s with aq := front ++ back }) h rfl hfields hrun rfl

end Sys2Proof.Machine
end

section
/-! PROOF. READ_FILTER and SET_FILTER: the fields of a filter entry and their bytes (R175, R189, R190), and the two commands. -/

namespace Sys2Proof.Machine

open Sys2Proof

/-! ## The fields of one byte -/

theorem flagOf_of_lt {b : Byte} (h : b.toNat < 2) : flagOf b = some (decide (b = 1)) := by
  have hb : b = 0 ∨ b = 1 := by bv_omega
  rcases hb with rfl | rfl <;> rfl

theorem flagOf_of_ge {b : Byte} (h : 2 ≤ b.toNat) : flagOf b = none := by
  have h0 : b ≠ 0 := by bv_omega
  have h1 : b ≠ 1 := by bv_omega
  exact (if_neg h0).trans (if_neg h1)

/-- A flag that has passed the check is sent back as the byte that brought it. -/
theorem flagByte_decide {b : Byte} (h : b.toNat < 2) : flagByte (decide (b = 1)) = b := by
  have hb : b = 0 ∨ b = 1 := by bv_omega
  rcases hb with rfl | rfl <;> rfl

theorem filterIndexOf_of_eq {b : Byte} {j : Fin 8} (h : b.toNat = j.val) : filterIndexOf b = some j := by
  simp [filterIndexOf, h]

theorem filterIndexOf_of_ge {b : Byte} (h : 8 ≤ b.toNat) : filterIndexOf b = none := dif_neg (Nat.not_lt.mpr h)

theorem byteOf_of_toNat_eq {b : Byte} {n : Nat} (h : b.toNat = n) : byteOf n = b := by
  simp [byteOf, ← h]

theorem FilterAction.ofCode_code (a : FilterAction) : FilterAction.ofCode a.code = some a := by
  cases a <;> rfl

theorem FilterAction.ofCode_of_ge {b : Byte} (h : 3 ≤ b.toNat) : FilterAction.ofCode b = none := by
  unfold FilterAction.ofCode
  split
  · omega
  · omega
  · omega
  · rfl

/-! ## The fields of two bytes -/

theorem join2_bytes2 (h : Half) : join2 (h.extractLsb' 8 8) (h.extractLsb' 0 8) = h := by
  unfold join2
  rw [BitVec.extractLsb'_append_extractLsb'_eq_extractLsb' (by rfl), BitVec.extractLsb'_eq_self]

theorem filterableOnly_iff (kinds : Half) : filterableOnly kinds = true ↔ kinds &&& 0b1011100100000001#16 = 0 :=
  decide_eq_true_iff

/-- The bits of a channel set that stand for no channel and not for NONE (R128, R189). -/
theorem getLsbD_unusedMask : ∀ i : Fin 16, (0b0111000000000000#16).getLsbD i.val = decide (12 ≤ i.val ∧ i.val < 15) := by
  decide

/-- The check of a channel set's unused bits, as the mask that selects them. -/
theorem unusedBits_eq_zero_iff (channels : Half) :
    channels.extractLsb' 12 3 = 0 ↔ channels &&& 0b0111000000000000#16 = 0 := by
  constructor
  · intro h
    apply BitVec.eq_of_getLsbD_eq
    intro i hi
    rw [BitVec.getLsbD_and, getLsbD_unusedMask ⟨i, hi⟩]
    by_cases hr : 12 ≤ i ∧ i < 15
    · have hbit := congrArg (fun v : BitVec 3 => v.getLsbD (i - 12)) h
      have hlt : i - 12 < 3 := by omega
      have hsum : 12 + (i - 12) = i := by omega
      simpa [hr, hlt, hsum] using hbit
    · simp [hr]
  · intro h
    apply BitVec.eq_of_getLsbD_eq
    intro i hi
    have hbit := congrArg (fun v : Half => v.getLsbD (12 + i)) h
    have hmask := getLsbD_unusedMask ⟨12 + i, by omega⟩
    have hr : 12 + i < 15 := by omega
    simp only at hmask
    simpa [hi, hmask, hr] using hbit

/-- A channel set with its unused bits clear is put together again from NONE and the channels. -/
theorem channelField_of_unused {channels : Half} (h : channels &&& 0b0111000000000000#16 = 0) :
    BitVec.ofBool (channels.getLsbD 15) ++ (0#3) ++ channels.extractLsb' 0 12 = channels := by
  have hnone : BitVec.ofBool (channels.getLsbD 15) = channels.extractLsb' 15 1 := by
    apply BitVec.eq_of_getLsbD_eq
    intro i hi
    have h0 : i = 0 := by omega
    subst h0
    simp
  have hunused : channels.extractLsb' 12 3 = 0#3 := (unusedBits_eq_zero_iff channels).mpr h
  rw [hnone, ← hunused, BitVec.extractLsb'_append_extractLsb'_eq_extractLsb' (by rfl),
    BitVec.extractLsb'_append_extractLsb'_eq_extractLsb' (by rfl), BitVec.extractLsb'_eq_self]

theorem getLsbD_noneMask (noChannel : Bool) :
    ∀ i : Fin 16, (if noChannel = true then 0x8000 else 0 : Half).getLsbD i.val = (noChannel && decide (i.val = 15)) := by
  cases noChannel <;> decide

theorem getLsbD_noneBits (noChannel : Bool) :
    ∀ i : Fin 4, (BitVec.ofBool noChannel ++ 0#3).getLsbD i.val = (noChannel && decide (i.val = 3)) := by
  cases noChannel <;> decide

/-- NONE stands in bit 15 of a filter entry's channel set (R189). -/
theorem channelField_eq (noChannel : Bool) (channels : ChanSet) :
    BitVec.ofBool noChannel ++ (0#3) ++ channels = channels.setWidth 16 ||| if noChannel = true then 0x8000 else 0 := by
  apply BitVec.eq_of_getLsbD_eq
  intro i hi
  rw [BitVec.getLsbD_append, BitVec.getLsbD_or, BitVec.getLsbD_setWidth, getLsbD_noneMask noChannel ⟨i, hi⟩]
  split
  · have hne : i ≠ 15 := by omega
    simp [hi, hne]
  · have hbits := getLsbD_noneBits noChannel ⟨i - 12, by omega⟩
    have hof : channels.getLsbD i = false := BitVec.getLsbD_of_ge _ _ (by omega)
    have hiff : i - 12 = 3 ↔ i = 15 := by omega
    rw [hbits, hof]
    simp [hiff]

theorem bytes2_zero : bytes2 (BitVec.ofNat 16 0) = [0, 0] := by decide

/-! ## The fields of the commands -/

theorem setFilterFields_of_valid {index enabled action : Byte} {kinds channels : Half} {j : Fin 8} {a : FilterAction}
    (hindex : index.toNat = j.val) (henabled : enabled.toNat < 2) (haction : action = a.code)
    (hkinds : kinds &&& 0b1011100100000001#16 = 0) (hchannels : channels &&& 0b0111000000000000#16 = 0) :
    setFilterFields index enabled kinds channels action =
      some (.setFilter j ⟨decide (enabled = 1), kinds, channels.setWidth 12, channels.getLsbD 15, a, 0⟩) := by
  have hsets : filterableOnly kinds = true ∧ channels.extractLsb' 12 3 = 0 :=
    ⟨(filterableOnly_iff kinds).mpr hkinds, (unusedBits_eq_zero_iff channels).mpr hchannels⟩
  unfold setFilterFields
  rw [filterIndexOf_of_eq hindex, flagOf_of_lt henabled, haction, a.ofCode_code]
  simp only [Option.bind_eq_bind, Option.bind_some, if_pos hsets]
  rfl

theorem setFilterFields_of_invalid {index enabled action : Byte} {kinds channels : Half}
    (h : 8 ≤ index.toNat ∨ 2 ≤ enabled.toNat ∨ 3 ≤ action.toNat ∨ kinds &&& 0b1011100100000001#16 ≠ 0 ∨
      channels &&& 0b0111000000000000#16 ≠ 0) :
    setFilterFields index enabled kinds channels action = none := by
  have hsets (h : kinds &&& 0b1011100100000001#16 ≠ 0 ∨ channels &&& 0b0111000000000000#16 ≠ 0) :
      ¬(filterableOnly kinds = true ∧ channels.extractLsb' 12 3 = 0) := by
    rw [filterableOnly_iff, unusedBits_eq_zero_iff]
    rintro ⟨hkinds, hchannels⟩
    rcases h with h | h
    · exact h hkinds
    · exact h hchannels
  unfold setFilterFields
  rcases h with hindex | henabled | haction | h
  · simp [filterIndexOf_of_ge hindex]
  · simp [flagOf_of_ge henabled]
  · simp [FilterAction.ofCode_of_ge haction]
  · simp only [if_neg (hsets h)]
    simp

theorem readFilterFields_of_valid {index clear : Byte} {j : Fin 8} (hindex : index.toNat = j.val) (hclear : clear.toNat < 2) :
    readFilterFields index clear = some (.readFilter j (decide (clear = 1))) := by
  unfold readFilterFields
  rw [filterIndexOf_of_eq hindex, flagOf_of_lt hclear]
  rfl

theorem readFilterFields_of_invalid {index clear : Byte} (h : 8 ≤ index.toNat ∨ 2 ≤ clear.toNat) :
    readFilterFields index clear = none := by
  unfold readFilterFields
  rcases h with hindex | hclear
  · simp [filterIndexOf_of_ge hindex]
  · simp [flagOf_of_ge hclear]

theorem fieldsOf_setFilter (index enabled : Byte) (kinds channels : Half) (action : Byte) :
    fieldsOf .setFilter ([index, enabled] ++ bytes2 kinds ++ bytes2 channels ++ [action]) =
      setFilterFields index enabled kinds channels action := by
  have hjoined : fieldsOf .setFilter ([index, enabled] ++ bytes2 kinds ++ bytes2 channels ++ [action]) =
      setFilterFields index enabled (join2 (kinds.extractLsb' 8 8) (kinds.extractLsb' 0 8))
        (join2 (channels.extractLsb' 8 8) (channels.extractLsb' 0 8)) action := rfl
  rw [hjoined, join2_bytes2, join2_bytes2]

theorem fieldsOf_readFilter (index clear : Byte) : fieldsOf .readFilter [index, clear] = readFilterFields index clear := rfl

/-! ## The response to READ_FILTER (R190) -/

/-- What SET_FILTER writes reads back in the bytes that brought it, with a match count of 0. -/
theorem readFilterContents_of_written {index enabled : Byte} {kinds channels : Half} {j : Fin 8} (a : FilterAction)
    (hindex : index.toNat = j.val) (henabled : enabled.toNat < 2) (hchannels : channels &&& 0b0111000000000000#16 = 0) :
    readFilterContents j ⟨decide (enabled = 1), kinds, channels.setWidth 12, channels.getLsbD 15, a, 0⟩ =
      [index, enabled] ++ bytes2 kinds ++ bytes2 channels ++ [a.code] ++ [0, 0] := by
  have hfield : BitVec.ofBool (channels.getLsbD 15) ++ (0#3) ++ channels.setWidth 12 = channels :=
    channelField_of_unused hchannels
  unfold readFilterContents
  rw [byteOf_of_toNat_eq hindex, flagByte_decide henabled, hfield, bytes2_zero]

/-- The response in the encoding of SET_FILTER, with the match count (R190). -/
theorem readFilterContents_eq {index : Byte} {j : Fin 8} (hindex : index.toNat = j.val) (x : FilterEntry) :
    readFilterContents j x =
      [index, if x.enabled = true then 1 else 0] ++ bytes2 x.kinds
        ++ bytes2 (x.channels.setWidth 16 ||| if x.noChannel = true then 0x8000 else 0) ++ [x.action.code]
        ++ bytes2 (BitVec.ofNat 16 x.count) := by
  rw [readFilterContents, byteOf_of_toNat_eq hindex, channelField_eq]
  rfl

/-! ## The commands -/

theorem exec_setFilter (seq index enabled : Byte) (kinds channels : Half) (action : Byte) (s : State) :
    exec (.setFilter seq index enabled kinds channels action) s =
      hostCommand (commandFrame .setFilter seq ([index, enabled] ++ bytes2 kinds ++ bytes2 channels ++ [action])) s := rfl

theorem exec_readFilter (seq index clear : Byte) (s : State) :
    exec (.readFilter seq index clear) s = hostCommand (commandFrame .readFilter seq [index, clear]) s := rfl

/-- The state with entry `j` of the filter table replaced (R131, R132). -/
def State.setFilterEntry (s : State) (j : Fin 8) (x : FilterEntry) : State :=
  { s with ru := { s.ru with filter := s.ru.filter.set j x } }

theorem State.setFilterEntry_self (s : State) (j : Fin 8) : s.setFilterEntry j (s.ru.filter.get j) = s := by
  simp [State.setFilterEntry]

/-- The filter entry is answered as it stands; the clear flag then sets its match count to 0 (R132). -/
theorem runCommand_readFilter (s : State) (j : Fin 8) (clear : Bool) :
    runCommand (.readFilter j clear) s =
      ⟨s.setFilterEntry j (if clear = true then { s.ru.filter.get j with count := 0 } else s.ru.filter.get j),
        .done .ok (readFilterContents j (s.ru.filter.get j))⟩ := by
  cases clear with
  | true => rfl
  | false =>
    simp only [Bool.false_eq_true, if_false, s.setFilterEntry_self]
    rfl

/-- Settles O53: the field checks of each command, then what it does with its entry. -/
theorem filterTable : Obligations.FilterTable := by
  unfold Obligations.FilterTable
  intro s seq i
  refine ⟨?_, ?_⟩
  · rintro en kinds channels action f rfl h
    rw [exec_setFilter]
    refine ⟨fun hbad => ?_, ?_⟩
    · exact hostCommand_badValue h rfl ((fieldsOf_setFilter ..).trans (setFilterFields_of_invalid hbad))
    · rintro j a hi hen ha hkinds hchannels x rfl
      have hfields := (fieldsOf_setFilter ..).trans (setFilterFields_of_valid hi hen ha hkinds hchannels)
      refine ⟨hostCommand_done (u := s.setFilterEntry j _) h rfl hfields rfl rfl, ?_⟩
      rw [ha]
      exact readFilterContents_of_written a hi hen hchannels
  · intro clear h
    rw [exec_readFilter]
    refine ⟨fun hbad => ?_, ?_⟩
    · exact hostCommand_badValue h rfl ((fieldsOf_readFilter ..).trans (readFilterFields_of_invalid hbad))
    · rintro j x hi hclear rfl
      have hfields := (fieldsOf_readFilter ..).trans (readFilterFields_of_valid hi hclear)
      have hrun := runCommand_readFilter s.dropHead j (decide (clear = 1))
      simp only [decide_eq_true_eq, readFilterContents_eq hi] at hrun
      exact hostCommand_done (u := s.setFilterEntry j _) h rfl hfields hrun rfl

end Sys2Proof.Machine
end
